-- ==== Sys2Proof/Word.lean ====
section
/-! DEFINITION. The words of the part: bytes, upstream addresses and timestamps (spec 00_scope.md, Section 0.5). -/

namespace Sys2Proof

/-- One byte on a link, in a record or in a buffer. -/
abbrev Byte := BitVec 8

/-- An upstream address of 48 bits (Table 0-4). -/
abbrev Addr := BitVec 48

/-- A 48-bit count of microseconds (R181). -/
abbrev Stamp := BitVec 48

end Sys2Proof
end

