-- ==== Sys2Proof/Config.lean ====
section
/-! DEFINITION. The capacities of Table 0-4, and the values the manual leaves open (free values: constants without a body). -/

namespace Sys2Proof.Config

/-- Entries of the transaction table (R10). -/
abbrev ttEntries : Nat := 32
/-- Letters (R20). -/
abbrev letters : Nat := 1024
/-- Frames of the longest letter (R20). -/
abbrev maxFrames : Nat := 131072
/-- Recording channels (R83) and playback cursors (R125). -/
abbrev units : Nat := 32
/-- Segment entries of the pool (R41). -/
abbrev segEntries : Nat := 16384
/-- Cue records of the pool (R148). -/
abbrev cueRecords : Nat := 2048
/-- Cues one letter may hold (R149). -/
abbrev cuesPerLetter : Nat := 64
/-- Frames of the longest hush segment (Table 3-1). -/
abbrev maxHush : Nat := 4096
/-- Slots of a bin (R52). -/
abbrev slotsPerBin : Nat := 32
/-- Bytes of a slot, and of a frame record (R52). -/
abbrev slotBytes : Nat := 80
/-- Samples of a frame (Table 0-2). -/
abbrev frameSamples : Nat := 128
/-- Requests the decode request queue holds (R111). -/
abbrev drqSize : Nat := 64
/-- The largest output index, base and temporary duration of a cursor (R125). -/
abbrev maxIndex : Nat := 16777215

/-- Free value (log 12): bytes 26h-2Bh of a LETTER_REPORT of a letter without a closed time, which
Table 10-8 names and gives no value. DESIGN CHOICE: unconstrained, a fresh one for each report. -/
opaque absentClosedTime : Nat → Stamp

/-- The outcomes of a cue command that reaches step 4 of R150. -/
inductive CueOutcome where
  | added | present | removed | absent
  deriving DecidableEq, Repr, Inhabited

/-- Free value (log 13): the outcome that the COMMAND_DONE of a CUE_ADD answered NO_ROOM carries. R150 says that
the notice carries one of the four and R152 names none. DESIGN CHOICE: any of the four, a fresh one each time. -/
opaque noRoomOutcome : Nat → CueOutcome

/-- Free value (log 11): byte 04h of a COMMAND_DONE whose channel or cursor number is above 255,
which one byte cannot hold. DESIGN CHOICE: an unconstrained function of the number. -/
opaque wideUnit : Nat → Byte

end Sys2Proof.Config
end

