-- ==== Sys2Proof/Syntax.lean ====
section
/-! DEFINITION. The commands of the part: one constructor of `Instr` for each row of spec/opcode_table.json. -/

namespace Sys2Proof

/-- A response code of the link other than OKAY (R9, log 24). -/
inductive LinkError where
  /-- The link's SLVERR. -/
  | slverr
  /-- The link's DECERR. -/
  | decerr
  /-- Any further code the memory controller gives, by number. -/
  | unnamed (code : Nat)
  deriving DecidableEq, Repr, Inhabited

/-- A response code, as the link carries it and the memory port answers with it: OKAY, or any other (R9, R12, log 24). -/
inductive MemCode where
  /-- The link's OKAY. -/
  | okay
  /-- Any other code. -/
  | other (code : LinkError)
  deriving DecidableEq, Repr, Inhabited

/-- A transaction offered on the link port (R8). A read carries no strobes and no data. -/
structure Txn where
  /-- Link ID, 0-255. -/
  id : Byte
  /-- Direction: set for a write. -/
  write : Bool
  /-- Address of the first byte. -/
  addr : Addr
  /-- Length in bytes, 1-256. -/
  len : Nat
  /-- Writes: one strobe for each byte. -/
  strobes : List Bool
  /-- Writes: one data byte for each byte. -/
  data : List Byte
  deriving DecidableEq, Repr, Inhabited

/-- The commands of the part. The ring commands carry the fields of their record (Table 10-5).
An operand that names an entry, an engine or an access settles a choice the manual leaves open (log 6). -/
inductive Instr where
  /-- Assertion of the reset pin (R18). -/
  | powerOnReset
  /-- Release of the reset pin with the strap value it samples (R173). -/
  | resetRelease (cpsel : BitVec 10)
  /-- Assertion of the link-reset input (R19). -/
  | linkReset
  /-- Release of the link-reset input (R19). -/
  | linkResetRelease
  /-- The link port accepts a transaction into a free entry (R8, R10). -/
  | transactionAccept (entry : Fin 32) (t : Txn)
  /-- The memory port answers the forwarded transaction of an entry (R12). -/
  | memoryResponse (entry : Fin 32) (code : MemCode) (data : List Byte)
  /-- The host bridge takes the presented response of an entry (R14). -/
  | responseTaken (entry : Fin 32)
  /-- A waiting entry's hold runs out (R15). -/
  | holdExpiry (entry : Fin 32)
  /-- The OKAY answer to an entry's write of the command producer index (R173, R174). -/
  | commandProducerIndexWrite (entry : Fin 32)
  /-- The OKAY answer to an entry's write of the notice consumer index (R173, R179). -/
  | noticeConsumerIndexWrite (entry : Fin 32)
  /-- A fetched record with an unknown code, or a failed fetch (none) (R174, R175). -/
  | badCommand (code : Option Byte)
  /-- CONFIGURE (R176). -/
  | configure
  /-- The answer to the read of the configuration block (R176). -/
  | configurationReadAnswer (code : MemCode) (data : List Byte)
  /-- POOL_RESET, option bit 0 keep (R177). -/
  | poolReset (opt : Byte)
  /-- The end of a pool reset (R177). -/
  | poolResetEnd
  /-- LETTER_OPEN (R23). -/
  | letterOpen (letter channel tag : BitVec 16) (opt : Byte)
  /-- LETTER_CLOSE (R26). -/
  | letterClose (letter : BitVec 16)
  /-- A FLUSHING channel with an empty finished queue completes its close (R27, R105). -/
  | closeCompletion (channel : Fin 32)
  /-- LETTER_FILE (R28). -/
  | letterFile (letter : BitVec 16)
  /-- LETTER_HOLD (R29). -/
  | letterHold (letter : BitVec 16) (opt : Byte)
  /-- LETTER_DISCARD (R35). -/
  | letterDiscard (letter : BitVec 16)
  /-- The discard walk returns one segment (R37). -/
  | discardWalkStep
  /-- LETTER_QUERY (R30). -/
  | letterQuery (letter : BitVec 16)
  /-- CHANNEL_SET: V1 threshold, V2 hang, V3 cap, option mode (R103). -/
  | channelSet (channel : BitVec 16) (opt : Byte) (v1 v2 v3 : BitVec 32)
  /-- CURSOR_ATTACH: V1 position, V2 rate (R128). -/
  | cursorAttach (cursor letter : BitVec 16) (v1 v2 : BitVec 32)
  /-- CURSOR_DETACH (R129). -/
  | cursorDetach (cursor : BitVec 16)
  /-- CURSOR_STEP: V1 signed frames, V2 new base (R142). -/
  | cursorStep (cursor : BitVec 16) (v1 v2 : BitVec 32)
  /-- CURSOR_RATE: V1 rate, V2 temporary rate, V3 duration, V4 new base (R143). -/
  | cursorRate (cursor : BitVec 16) (v1 v2 v3 v4 : BitVec 32)
  /-- CURSOR_TARGET: V1 progress interval, option bit 0 cue-follow (R139). -/
  | cursorTarget (cursor : BitVec 16) (opt : Byte) (v1 : BitVec 32)
  /-- CUE_ADD: option kind, Bn placement mode, V1 position (R151, R152). -/
  | cueAdd (letter : BitVec 16) (opt : Byte) (mode tag : BitVec 16) (v1 : BitVec 32)
  /-- CUE_REMOVE: option kind, V1 position (R153). -/
  | cueRemove (letter : BitVec 16) (opt : Byte) (v1 : BitVec 32)
  /-- The arbiter grants an engine the head frame of a channel (R75, R110). -/
  | encodeGrant (engine : Fin 2)
  /-- An encode engine finishes coding and issues its slot write (R76). -/
  | codingComplete (engine : Fin 2)
  /-- The slot write of an encode job is answered (R77). -/
  | encodeJobComplete (engine : Fin 2) (code : MemCode)
  /-- The arbiter grants an engine the head decode request (R110, R116). -/
  | decodeGrant (engine : Fin 2)
  /-- The slot read of a decode job is answered (R79). -/
  | decodeReadAnswer (engine : Fin 2) (code : MemCode) (data : List Byte)
  /-- A decode job completes into its cache entry (R117). -/
  | decodeJobComplete (engine : Fin 2)
  /-- Needs of the room waiting list are looked up again (R115). -/
  | roomWaitingLookup
  /-- A channel takes the held write at the head of its waiting list (R92). -/
  | writeTaken (channel : Fin 32)
  /-- A channel takes a run-starting write once its finished queue has drained (R91). -/
  | runBegin (channel : Fin 32)
  /-- A slot read of a TIME read is answered (R160). -/
  | timeSlotReadAnswer (entry : Fin 32) (frame : Nat) (code : MemCode) (data : List Byte)
  /-- An EXPORT_READ is answered (R166). -/
  | exportReadAnswer (entry : Fin 32) (frame : Nat) (code : MemCode) (data : List Byte)
  /-- An IMPORT_WRITE is answered (R171). -/
  | importWriteAnswer (bin slot : Nat) (code : MemCode)
  deriving DecidableEq, Repr

end Sys2Proof
end

