-- ==== Sys2Proof/Machine/State.lean ====
section
/-! DEFINITION. The state of the part, field by field as the manual names it, and the state after power-on reset.
A table is a list of (number, record) with numbers strictly rising that lists only records that differ
from the reset record of their kind (Machine/Tab.lean reads and writes it). -/

namespace Sys2Proof.Machine

open Sys2Proof

/-- The ways a step of this part can stop with a fault: none. The manual reports every error
in a response, a result code, a flag or a notice (log 31). Raised by nothing; safe. -/
inductive Fault where
  deriving DecidableEq, Repr

/-- Why a command has no meaning. -/
inductive Refusal where
  /-- Raised by an arm of `exec` whose command is not modelled. Safe: the model stops. -/
  | notModelled (mnemonic : String)
  /-- Raised by a command whose operands the part's ports cannot carry (log 2). Safe: the model stops. -/
  | illFormed (mnemonic : String)
  deriving DecidableEq, Repr

/-- The part states (Table 10-2). -/
inductive PartState where
  | unconfigured | running | resetting
  deriving DecidableEq, Repr, Inhabited

/-- Result codes of a command (Table 10-7, byte 05h of kind 1). -/
inductive Result where
  | done | outOfRange | busy | wrongState | inUse | noRoom | badCommand | notConfigured
  deriving DecidableEq, Repr, Inhabited

/-- Reasons of an ACCESS_REFUSED (Table 10-7, byte 05h of kind 7). -/
inductive Reason where
  | notRecording | letterFree | readOnlyView | misaligned | channelFlushing | cursorIdle
  | resetting | crossesSpan
  deriving DecidableEq, Repr, Inhabited

/-- Reasons of a FRAME_DROPPED (Table 10-7, byte 05h of kind 8). -/
inductive DropReason where
  | bins | segments | length | memory
  deriving DecidableEq, Repr, Inhabited

/-- Causes of a failing record (R71; Table 10-7, byte 05h of kinds 9 and 10). -/
inductive Cause where
  | kind | step | check
  deriving DecidableEq, Repr, Inhabited

/-- Kinds of a cue, in list order (R149). -/
inductive CueKind where
  | instruction | spelling | brk
  deriving DecidableEq, Repr, Inhabited

/-- A placement mode of a channel (R83). -/
inductive Mode where
  | overwrite | insert
  deriving DecidableEq, Repr, Inhabited

/-- The configuration copy (R176), which is also the aperture decoder's capture (R1, log 25). -/
structure Cfg where
  /-- Bits 47-38 of the aperture base. -/
  apTop : Nat
  /-- View enables. -/
  pcm16 : Bool
  pcm8 : Bool
  time : Bool
  raw : Bool
  cursor : Bool
  /-- Frame-store base, bits 47-12 used. -/
  storeBase : Nat
  /-- Bin count B. -/
  bins : Nat
  /-- Notice ring base, bits 47-6 used. -/
  ringBase : Nat
  /-- Notice ring size in entries. -/
  ringSize : Nat
  /-- Hold limit in microseconds. -/
  holdLimit : Nat
  irqEnable : Bool
  quiet : BitVec 16
  deriving DecidableEq, Repr, Inhabited

/-- A pool reset in flight (R177). -/
structure PoolRun where
  keep : Bool
  slot : Nat
  deriving DecidableEq, Repr, Inhabited

/-- What an entry's classification or owner made of it (Table 1-5). -/
inductive EntryOutcome where
  | passThrough | served | refused | unmapped
  deriving DecidableEq, Repr, Inhabited

/-- Transaction entry states (Table 1-6). -/
inductive EntryState where
  | forwarded | waitingSpace | waitingRun | waitingFrames | waitingMemory | ready
  deriving DecidableEq, Repr, Inhabited

/-- The response of an entry (R9). -/
inductive Response where
  | ok | refused | unmapped | memory (code : MemCode)
  deriving DecidableEq, Repr, Inhabited

/-- The code with which the link carries a response: OK as OKAY, REFUSED as SLVERR, UNMAPPED as DECERR, and
the memory's own code as it came (R9). -/
def Response.code (r : Response) : MemCode :=
  match r with
  | .ok => .okay
  | .refused => .other .slverr
  | .unmapped => .other .decerr
  | .memory c => c

/-- The subject of a served or refused entry: view and letter or cursor number (Table 1-5). -/
structure Subject where
  view : Nat
  num : Nat
  deriving DecidableEq, Repr, Inhabited

/-- The class and position of one output of a cursor read (R133). -/
inductive OutPos where
  | beforeBase
  | beyondEnd
  /-- Letter sample i and fraction f; `last` when i is the last sample of the letter at the take. -/
  | at (i f : Nat) (last : Bool)
  deriving DecidableEq, Repr, Inhabited

/-- A transaction entry (Table 1-5), with what its owner fixed at the take. -/
structure Entry where
  id : Byte
  write : Bool
  addr : Addr
  len : Nat
  strobes : List Bool
  /-- The bytes of the transaction buffer in use: byte j belongs to address first + j (R13). -/
  buf : List Byte
  rank : Nat
  outcome : EntryOutcome
  subject : Option Subject
  st : EntryState
  holdStart : Stamp
  response : Option Response
  /-- The letter a taken read waits on. -/
  letter : Option Nat
  /-- The frames of a taken PCM or CURSOR read that are not yet COPIED. -/
  needs : List Nat
  /-- The position plan of a taken CURSOR read, from its first output index on (R133). -/
  plan : List OutPos
  /-- The frames copied for the position plan, with their samples as of their copy (R134). -/
  copied : List (Nat × List Int)
  /-- The frames of a TIME read that carry a cue, as fixed at its take (R157). -/
  cued : List Nat
  /-- Taken out of the link's ordering by a link reset (R19). -/
  reserved : Bool
  deriving DecidableEq, Repr, Inhabited

/-- One segment of a segment list (Table 3-1). -/
inductive Seg where
  | speech (bin slot frames : Nat)
  | hush (frames : Nat)
  deriving DecidableEq, Repr, Inhabited

/-- One cue of a cue list (Table 8-1); the letter is the list's. -/
structure Cue where
  pos : Nat
  kind : CueKind
  tag : BitVec 16
  deriving DecidableEq, Repr, Inhabited

/-- Letter states (Table 2-2). -/
inductive LetterState where
  | free | recording | ready | filed | discarding
  deriving DecidableEq, Repr, Inhabited

/-- A letter record (Table 2-1). -/
structure Letter where
  state : LetterState
  channel : Option Nat
  length : Nat
  speech : Nat
  hush : Nat
  segs : List Seg
  cues : List Cue
  cursorCount : Nat
  urgent : Bool
  hold : Bool
  damaged : Bool
  incomplete : Bool
  tag : BitVec 16
  opened : Stamp
  closed : Option Stamp
  deriving DecidableEq, Repr, Inhabited

/-- The free values of a letter record (R20). -/
def Letter.free : Letter :=
  { state := .free, channel := none, length := 0, speech := 0, hush := 0, segs := [], cues := [],
    cursorCount := 0, urgent := false, hold := false, damaged := false, incomplete := false,
    tag := 0, opened := 0, closed := none }

/-- A long letter command in flight (R22): a close, or a discard (and so a member of the discard queue, R36). -/
structure LongCmd where
  discard : Bool
  letter : Nat
  slot : Nat
  deriving DecidableEq, Repr, Inhabited

/-- Bin states (Table 3-2); an OPEN bin names its owner. -/
inductive BinState where
  | free | open_ (owner : Nat) | shut
  deriving DecidableEq, Repr, Inhabited

/-- A bin record (Table 3-2). -/
structure Bin where
  state : BinState
  fill : Nat
  live : Nat
  inFlight : Nat
  reads : Nat
  deriving DecidableEq, Repr, Inhabited

/-- A bin as CONFIGURE builds it (R44). -/
def Bin.fresh : Bin := { state := .free, fill := 0, live := 0, inFlight := 0, reads := 0 }

/-- Channel states (R84). -/
inductive ChanState where
  | idle | attached | run | flushing
  deriving DecidableEq, Repr, Inhabited

/-- Kinds of a run (R83). -/
inductive RunKind where
  | pcm | raw
  deriving DecidableEq, Repr, Inhabited

/-- A frame buffer (R85). A FINISHED buffer holds 128 samples, or the record of an import (R169). -/
inductive Buf where
  | free
  | filling (xs : List Int)
  | finished (xs : List Int)
  | record (bytes : List Byte)
  deriving DecidableEq, Repr, Inhabited

/-- Stages of a finished frame (Table 5-3). -/
inductive Stage where
  | awaitingEncode | encoding | ready
  deriving DecidableEq, Repr, Inhabited

/-- A finished frame (Table 5-3). -/
structure FFrame where
  letter : Nat
  target : Nat
  /-- SPEECH, or else HUSH. -/
  speech : Bool
  mode : Mode
  /-- The cap of a HUSH frame of a PCM run. -/
  cap : Option Nat
  buffer : Nat
  stage : Stage
  /-- The bin and slot handed out for the frame. -/
  place : Option (Nat × Nat)
  deriving DecidableEq, Repr, Inhabited

/-- A recording channel record (Table 5-1). -/
structure Channel where
  state : ChanState
  letter : Option Nat
  mode : Mode
  threshold : Nat
  hang : Nat
  cap : Nat
  runKind : Option RunKind
  nextIdx : Option Nat
  editPoint : Option Nat
  hangCount : Nat
  carried : Nat
  buf0 : Buf
  buf1 : Buf
  queue : List FFrame
  /-- Entry numbers of the held writes, in arrival order (R88). -/
  waiting : List Nat
  dropMark : Bool
  deriving DecidableEq, Repr, Inhabited

/-- A channel after power-on reset (Table 5-1, last column). -/
def Channel.initial : Channel :=
  { state := .idle, letter := none, mode := .overwrite, threshold := 192, hang := 10, cap := 0,
    runKind := none, nextIdx := none, editPoint := none, hangCount := 0, carried := 16,
    buf0 := .free, buf1 := .free, queue := [], waiting := [], dropMark := false }

/-- The result of a decode job (R79). -/
inductive DecResult where
  | good (samples : List Int)
  | damaged (cause : Cause)
  | memory
  deriving DecidableEq, Repr, Inhabited

/-- A codec engine (Table 4-10). `coding` and `writing` are ENCODING in phase CODING and WRITING;
`reading` and `decoding` are DECODING in phase READING and with its result known. -/
inductive Engine where
  | free
  | coding (channel letter buffer : Nat) (samples : List Int) (kin bin slot : Nat)
  | writing (channel letter buffer kin bin slot kout : Nat)
  | reading (letter frame bin slot entry : Nat)
  | decoding (letter frame bin slot entry : Nat) (result : DecResult)
  deriving DecidableEq, Repr, Inhabited

/-- One need of a waiting read: its transaction entry, letter and frame (Section 6.3). -/
structure Need where
  entry : Nat
  letter : Nat
  frame : Nat
  deriving DecidableEq, Repr, Inhabited

/-- A decode request (Table 6-1). -/
structure Request where
  letter : Nat
  frame : Nat
  urgent : Bool
  waiters : List Need
  deriving DecidableEq, Repr, Inhabited

/-- The state of a decode cache entry (Table 6-2). -/
inductive CacheState where
  | empty
  | filling (letter frame bin slot : Nat) (waiters : List Need)
  | valid (letter frame : Nat) (samples : List Int)
  | stale (letter frame bin slot : Nat) (waiters : List Need)
  deriving DecidableEq, Repr, Inhabited

/-- A numbered decode cache entry. -/
structure CacheEntry where
  num : Nat
  st : CacheState
  deriving DecidableEq, Repr, Inhabited

/-- A playback cursor record (Table 7-1). -/
structure Cursor where
  /-- The letter played; absent exactly in IDLE (R126). -/
  letter : Option Nat
  origin : Nat
  base : Nat
  rate : Nat
  tempRate : Nat
  tempDur : Nat
  lastRead : Option Nat
  endMark : Bool
  checked : Int
  target : Option Nat
  interval : Nat
  follow : Bool
  deriving DecidableEq, Repr, Inhabited

/-- A cursor after power-on reset (Table 7-1, last column). -/
def Cursor.initial : Cursor :=
  { letter := none, origin := 0, base := 0, rate := 4096, tempRate := 4096, tempDur := 0,
    lastRead := none, endMark := false, checked := -1, target := none, interval := 0, follow := false }

/-- What issued an outstanding raw-path access (Table 9-1). -/
inductive AccessKind where
  | exportRead (entry : Nat)
  | timeRead (entry : Nat)
  | importWrite (channel : Nat)
  deriving DecidableEq, Repr, Inhabited

/-- An outstanding raw-path access (Table 9-1). -/
structure Access where
  kind : AccessKind
  letter : Nat
  frame : Nat
  bin : Nat
  slot : Nat
  deriving DecidableEq, Repr, Inhabited

/-- A request the part issues on the memory port. `entry` is the memory-port ID of a forwarded
transaction (R12); it is absent for the part's own transactions, whose IDs the manual does not give (log 23). -/
structure PortReq where
  entry : Option Nat
  write : Bool
  addr : Addr
  len : Nat
  strobes : List Bool
  data : List Byte
  deriving DecidableEq, Repr, Inhabited

/-- A response the host bridge has taken (R9): link ID, the code the link carries and, for a read, the data. -/
structure LinkResp where
  id : Byte
  write : Bool
  code : Option MemCode
  data : List Byte
  deriving DecidableEq, Repr, Inhabited

/-- The state of the part. -/
structure State where
  /-- Commands that wait, first in, first out (the model's own). -/
  pending : List Instr
  /-- Reset pin asserted (R18). -/
  resetPin : Bool
  /-- Link-reset input asserted (R19). -/
  linkResetPin : Bool
  /-- The sampled CPSEL straps (R173). -/
  cpsel : BitVec 10
  /-- Timestamp counter (R181). -/
  tsc : Stamp
  /-- Part state (R176, R177). -/
  part : PartState
  /-- Configuration copy (R176). -/
  cfg : Option Cfg
  /-- CMON's copy of the command producer index (R173). -/
  prodCopy : BitVec 32
  /-- Command consumer index, 0-63 (R174). -/
  consumer : Nat
  /-- A command fetch is outstanding (R174, log 9). -/
  fetching : Bool
  /-- The configuration-block read is outstanding (R176). -/
  cfgPending : Bool
  /-- Result and ring slot of the last command taken (R175). -/
  lastResult : Result
  lastSlot : Nat
  /-- The pool reset in flight (R177). -/
  poolRun : Option PoolRun
  /-- NWR's copy of the notice consumer index (R173). -/
  consCopy : BitVec 32
  /-- Notice producer index P (R178). -/
  prod : Nat
  /-- Overflow flag and lost count (R178). -/
  overflow : Bool
  lost : Nat
  /-- Loud marks by ring slot (R178); an unlisted slot's mark is clear. -/
  loud : List (Nat × Bool)
  /-- Transaction table (R10); an unlisted entry is free. -/
  entries : List (Nat × Entry)
  /-- The next arrival rank. -/
  nextRank : Nat
  /-- Letter directory (R20); an unlisted letter holds the free values. -/
  letters : List (Nat × Letter)
  /-- Long letter commands in flight, in the order taken (R22, R36). -/
  longs : List LongCmd
  /-- Free segment entries (R41) and free cue records (R148). -/
  freeSegs : Nat
  freeCues : Nat
  /-- Bin table (R44); an unlisted bin below `binCount` is FREE with zero counts. -/
  binCount : Nat
  bins : List (Nat × Bin)
  /-- Free bin list, head first (R46). -/
  freeBins : List Nat
  /-- Recording channels (R83); an unlisted channel is as after power-on. -/
  channels : List (Nat × Channel)
  /-- Codec engines CE0 and CE1 (R74). -/
  engine0 : Engine
  engine1 : Engine
  /-- Last-granted pointers of the arbiter (R109). -/
  pressedPtr : Nat
  unpressedPtr : Nat
  /-- Decode cache in recency order, least recent first (R113). -/
  cache : List CacheEntry
  /-- Decode request queue, head first (R111). -/
  drq : List Request
  /-- Room waiting list (R115). -/
  room : List Need
  /-- Requests that have left the queue since the list was last served for one (R112, R115; the model's own, log 20). -/
  roomDue : Nat
  /-- Playback cursors (R125); an unlisted cursor is as after power-on. -/
  cursors : List (Nat × Cursor)
  /-- Outstanding raw-path accesses (R163). -/
  raw : List Access
  /-- Index of the next free value (the model's own, logs 12 and 13). -/
  freeIdx : Nat
  /-- Requests issued on the memory port since power-on, oldest first (the model's own, log 5). -/
  portOut : List PortReq
  /-- Responses taken by the host bridge since power-on, oldest first (the model's own, log 5). -/
  linkOut : List LinkResp
  deriving DecidableEq, Repr

/-- The decode cache after power-on reset: every entry EMPTY, 0 least recent (R113). -/
def initialCache : List CacheEntry := (List.range 32).map fun n => { num := n, st := .empty }

/-- The part after power-on reset, the reset pin still asserted (R18, R39, R62, R82, R106, R124, R146, R156;
log 4). -/
def State.reset : State :=
  { pending := [], resetPin := true, linkResetPin := false, cpsel := 0, tsc := 0,
    part := .unconfigured, cfg := none, prodCopy := 0, consumer := 0, fetching := false,
    cfgPending := false, lastResult := .done, lastSlot := 0, poolRun := none,
    consCopy := 0, prod := 0, overflow := false, lost := 0, loud := [],
    entries := [], nextRank := 0, letters := [], longs := [],
    freeSegs := Config.segEntries, freeCues := Config.cueRecords,
    binCount := 0, bins := [], freeBins := [], channels := [],
    engine0 := .free, engine1 := .free, pressedPtr := 31, unpressedPtr := 31,
    cache := initialCache, drq := [], room := [], roomDue := 0, cursors := [], raw := [],
    freeIdx := 0, portOut := [], linkOut := [] }

end Sys2Proof.Machine
end

