-- ==== Sys2Proof/Machine/Tab.lean ====
section
/-! DEFINITION. Tables of numbered records in one canonical form: numbers strictly rising, no record equal to the default. -/

namespace Sys2Proof.Machine

/-- The record listed for number `n`. -/
def Tab.find {α : Type} (t : List (Nat × α)) (n : Nat) : Option α :=
  match t with
  | [] => none
  | (k, v) :: r => if k = n then some v else Tab.find r n

/-- List record `v` for number `n`. -/
def Tab.put {α : Type} (t : List (Nat × α)) (n : Nat) (v : α) : List (Nat × α) :=
  match t with
  | [] => [(n, v)]
  | (k, w) :: r =>
    if n < k then (n, v) :: (k, w) :: r
    else if k = n then (n, v) :: r
    else (k, w) :: Tab.put r n v

/-- List nothing for number `n`. -/
def Tab.erase {α : Type} (t : List (Nat × α)) (n : Nat) : List (Nat × α) :=
  match t with
  | [] => []
  | (k, w) :: r => if k = n then Tab.erase r n else (k, w) :: Tab.erase r n

/-- The record of number `n`, the default `d` when none is listed. -/
def Tab.get {α : Type} (d : α) (t : List (Nat × α)) (n : Nat) : α := (Tab.find t n).getD d

/-- Give number `n` the record `v`; the default is not listed. -/
def Tab.set {α : Type} [DecidableEq α] (d : α) (t : List (Nat × α)) (n : Nat) (v : α) :
    List (Nat × α) :=
  if v = d then Tab.erase t n else Tab.put t n v

/-- Change every record of a table; a record that becomes the default is no longer listed. -/
def Tab.change {α : Type} [DecidableEq α] (d : α) (f : α → α) (t : List (Nat × α)) : List (Nat × α) :=
  (t.map fun p => (p.1, f p.2)).filter fun p => decide (p.2 ≠ d)

/-- The numbers of a table rise strictly, from above `lo`. -/
def Tab.risesFrom {α : Type} (lo : Nat) (t : List (Nat × α)) : Bool :=
  match t with
  | [] => true
  | (k, _) :: r => decide (lo ≤ k) && Tab.risesFrom (k + 1) r

/-- The canonical form of a table with default `d`. -/
def Tab.wf {α : Type} [DecidableEq α] (d : α) (t : List (Nat × α)) : Bool :=
  Tab.risesFrom 0 t && t.all fun p => decide (p.2 ≠ d)

end Sys2Proof.Machine
end

