-- ==== Sys2Proof/Machine/Operands.lean ====
section
/-! DEFINITION. Operand forms: byte order, the fields of an aperture address (Tables 1-1, 1-2), the unit indices of a
transaction, sample conversions (R87, R120, R121), and the fields of the configuration block (Table 10-4). -/

namespace Sys2Proof.Machine

open Sys2Proof

/-- `n` little-endian bytes of a value (Section 10.6). -/
def leBytes (n v : Nat) : List Byte :=
  match n with
  | 0 => []
  | k + 1 => BitVec.ofNat 8 v :: leBytes k (v / 256)

/-- The value of little-endian bytes. -/
def leNat (l : List Byte) : Nat :=
  match l with
  | [] => 0
  | b :: r => b.toNat + 256 * leNat r

/-- `n` bytes of a record from offset `off`. -/
def bytesAt (l : List Byte) (off n : Nat) : List Byte := (l.drop off).take n

/-- The little-endian field of `n` bytes at offset `off` of a record. -/
def fieldAt (l : List Byte) (off n : Nat) : Nat := leNat (bytesAt l off n)

/-- `n` zero bytes. -/
def zeros (n : Nat) : List Byte := List.replicate n 0

/-- v held within lo to hi (Section 0.4). -/
def clampInt (v lo hi : Int) : Int := if v < lo then lo else if hi < v then hi else v

/-- A signed 32-bit command field clamped to lo to hi. -/
def clampField (v : BitVec 32) (lo hi : Nat) : Nat := (clampInt v.toInt lo hi).toNat

/-- Option bit 0 of a command. -/
def optBit (o : Byte) : Bool := o.getLsbD 0

/-- A frame of zero samples. -/
def silence : List Int := List.replicate 128 0

/-- Sample n of a frame of samples. -/
def sampleAt (xs : List Int) (n : Nat) : Int := xs.getD n 0

/-! ### Spans and fields of an aperture address (R2) -/

/-- The span of a byte address: address bits 47-25. -/
def spanOf (a : Nat) : Nat := a / 2 ^ 25

/-- View code of a span: address bits 37-35. -/
def spanView (sp : Nat) : Nat := sp / 2 ^ 10 % 8

/-- Letter or cursor field of a span: address bits 34-25. -/
def spanNum (sp : Nat) : Nat := sp % 2 ^ 10

/-- Offset of a byte address in its span: address bits 24-0. -/
def offsetOf (a : Nat) : Nat := a % 2 ^ 25

/-- The address of the last byte of a transaction, modulo 2^48 (R5). -/
def lastAddr (a len : Nat) : Nat := (a + (len - 1)) % 2 ^ 48

/-- The view-enable flag of a view 0-4 (R1). -/
def Cfg.enabled (c : Cfg) (view : Nat) : Bool :=
  match view with
  | 0 => c.pcm16
  | 1 => c.pcm8
  | 2 => c.time
  | 3 => c.raw
  | 4 => c.cursor
  | _ => false

/-- Whether a span is claimed (R4). -/
def claimed (cfg : Option Cfg) (sp : Nat) : Bool :=
  match cfg with
  | none => false
  | some c => decide (sp / 2 ^ 13 = c.apTop) && (decide (5 ≤ spanView sp) || c.enabled (spanView sp))

/-- The stride of a view (Table 1-2); views 5-7 have none and are given 1. -/
def stride (view : Nat) : Nat :=
  match view with
  | 0 => 2
  | 1 => 1
  | 2 => 4
  | 3 => 128
  | 4 => 2
  | _ => 1

/-- Offset of the first byte of an entry's transaction. -/
def Entry.offset (e : Entry) : Nat := offsetOf e.addr.toNat

/-- View of an entry's subject. -/
def Entry.view (e : Entry) : Nat := (e.subject.getD default).view

/-- Letter or cursor number of an entry's subject. -/
def Entry.num (e : Entry) : Nat := (e.subject.getD default).num

/-- First unit index of an entry (R2): for a PCM write the host sample index s, for a RAW write the record index. -/
def Entry.firstUnit (e : Entry) : Nat := e.offset / stride e.view

/-- Last unit index of an entry. -/
def Entry.lastUnit (e : Entry) : Nat := (e.offset + e.len - 1) / stride e.view

/-! ### Samples (R87, R120, R121) -/

/-- The signed 16-bit sample of two bytes, the lower address less significant. -/
def sampleOfBytes (lo hi : Byte) : Int := (hi ++ lo).toInt

/-- The samples of PCM16 write data. -/
def samples16 (l : List Byte) : List Int :=
  match l with
  | lo :: hi :: r => sampleOfBytes lo hi :: samples16 r
  | _ => []

/-- The samples of PCM8 write data: byte × 256. -/
def samples8 (l : List Byte) : List Int := l.map fun b => b.toInt * 256

/-- The low byte (even byte index) or high byte (odd) of a sample's two's-complement value (R120). -/
def sampleByte (x : Int) (odd : Bool) : Byte :=
  let w : BitVec 16 := BitVec.ofInt 16 x
  if odd then w.extractLsb' 8 8 else w.extractLsb' 0 8

/-- The PCM8 byte of a sample (R121): floor((x + 128) / 256) held within -128 to 127. -/
def pcm8Byte (x : Int) : Byte := BitVec.ofInt 8 (clampInt ((x + 128) / 256) (-128) 127)

/-- The letter sample of byte j of a PCM span (R120, R121). -/
def pcmSample (view j : Nat) : Nat := if view = 0 then j / 2 else j

/-- Byte j of a PCM span for a sample (R120, R121). -/
def pcmByte (view j : Nat) (x : Int) : Byte := if view = 0 then sampleByte x (j % 2 = 1) else pcm8Byte x

/-- The numbers from a to b, both included. -/
def upTo (a b : Nat) : List Nat := (List.range (b + 1 - a)).map (a + ·)

/-- The frames a PCM read touches, in ascending order (R119). -/
def pcmFrames (view off len : Nat) : List Nat :=
  upTo (pcmSample view off / 128) (pcmSample view (off + len - 1) / 128)

/-! ### The configuration block (Table 10-4) and its checks (R176) -/

/-- The control-page base (R173). -/
def cpBase (cpsel : BitVec 10) : Nat := cpsel.toNat * 65536

/-- The configuration copy read from the 64 bytes of the block; unused bits are ignored (log 33). -/
def Cfg.ofBlock (l : List Byte) : Cfg :=
  let en := fieldAt l 8 1
  { apTop := fieldAt l 0 8 / 2 ^ 38 % 2 ^ 10
    pcm16 := en.testBit 0, pcm8 := en.testBit 1, time := en.testBit 2, raw := en.testBit 3
    cursor := en.testBit 4
    irqEnable := (fieldAt l 9 1).testBit 0
    holdLimit := fieldAt l 0x0A 2
    bins := fieldAt l 0x0C 4
    storeBase := fieldAt l 0x10 8 / 2 ^ 12 % 2 ^ 36 * 2 ^ 12
    ringBase := fieldAt l 0x18 8 / 2 ^ 6 % 2 ^ 42 * 2 ^ 6
    ringSize := fieldAt l 0x20 4
    quiet := BitVec.ofNat 16 (fieldAt l 0x24 2) }

/-- Two address ranges, by base and size, overlap. -/
def overlap (a n b m : Nat) : Bool := decide (a < b + m) && decide (b < a + n)

/-- A notice ring size is a power of two from 64 to 4096. -/
def ringSizeOk (n : Nat) : Bool := [64, 128, 256, 512, 1024, 2048, 4096].contains n

/-- The checks of R176 on a configuration, against the control-page base. -/
def Cfg.ok (c : Cfg) (cp : Nat) : Bool :=
  let ap := c.apTop * 2 ^ 38
  let store := c.bins * 2560
  let ring := c.ringSize * 64
  decide (1 ≤ c.bins) && decide (c.bins ≤ 65536) && ringSizeOk c.ringSize &&
    !overlap ap (2 ^ 38) cp 4096 &&
    !overlap c.storeBase store c.ringBase ring && !overlap c.storeBase store cp 4096 &&
    !overlap c.ringBase ring cp 4096 &&
    !overlap c.storeBase store ap (2 ^ 38) && !overlap c.ringBase ring ap (2 ^ 38) &&
    decide (c.storeBase + store ≤ 2 ^ 48) && decide (c.ringBase + ring ≤ 2 ^ 48)

/-- The address of a slot (R52). -/
def Cfg.slotAddr (c : Cfg) (bin slot : Nat) : Nat := c.storeBase + (bin * 32 + slot) * 80

end Sys2Proof.Machine
end

