-- ==== Sys2Proof/WellFormed.lean ====
section
/-! DEFINITION. Well-formed commands: what the link port and the memory port can carry, and which codes are unknown. -/

namespace Sys2Proof

/-- A transaction the link port can carry (R8): 1-256 bytes; a write has one strobe and one data
byte for each of its bytes, a read has neither. -/
def Txn.wf (t : Txn) : Bool :=
  decide (1 ≤ t.len) && decide (t.len ≤ 256) &&
    (if t.write then decide (t.strobes.length = t.len) && decide (t.data.length = t.len)
     else decide (t.strobes = []) && decide (t.data = []))

/-- The answer to a read of `n` bytes: an OKAY answer carries `n` bytes (R52, R176). -/
def answerWf (n : Nat) (code : MemCode) (data : List Byte) : Bool :=
  match code with
  | .okay => decide (data.length = n)
  | .other _ => true

/-- A command code that Table 10-5 does not list. -/
def unknownCode (c : Byte) : Bool := decide (c.toNat = 0) || decide (16 < c.toNat)

/-- Operands that the part's ports can carry (log 2). -/
def Instr.wf : Instr → Bool
  | .transactionAccept _ t => t.wf
  | .badCommand (some c) => unknownCode c
  | .configurationReadAnswer code data => answerWf 64 code data
  | .decodeReadAnswer _ code data => answerWf 80 code data
  | .timeSlotReadAnswer _ _ code data => answerWf 80 code data
  | .exportReadAnswer _ _ code data => answerWf 80 code data
  | .powerOnReset | .resetRelease _ | .linkReset | .linkResetRelease | .memoryResponse _ _ _
  | .responseTaken _ | .holdExpiry _ | .commandProducerIndexWrite _ | .noticeConsumerIndexWrite _
  | .badCommand none | .configure | .poolReset _ | .poolResetEnd | .letterOpen _ _ _ _
  | .letterClose _ | .closeCompletion _ | .letterFile _ | .letterHold _ _ | .letterDiscard _
  | .discardWalkStep | .letterQuery _ | .channelSet _ _ _ _ _ | .cursorAttach _ _ _ _
  | .cursorDetach _ | .cursorStep _ _ _ | .cursorRate _ _ _ _ _ | .cursorTarget _ _ _
  | .cueAdd _ _ _ _ _ | .cueRemove _ _ _ | .encodeGrant _ | .codingComplete _
  | .encodeJobComplete _ _ | .decodeGrant _ | .decodeJobComplete _ | .roomWaitingLookup
  | .writeTaken _ | .runBegin _ | .importWriteAnswer _ _ _ => true

end Sys2Proof
end

