-- ==== Sys2Proof/Decode.lean ====
section
/-! DEFINITION. Decoding. No row of the table of commands gives bits, so no word spells a command. The ring commands have
a 32-byte record (Table 10-5): it is read by `commandOfRecord` and written by `recordOfCommand`. -/

namespace Sys2Proof

open Machine

/-- The command a word spells by the table's bits: no row gives bits (log 28). -/
def decodeTableWord (_nbits _w : Nat) : Option Instr := none

/-- The 16-bit field at offset `off` of a record. -/
def field16 (l : List Byte) (off : Nat) : BitVec 16 := BitVec.ofNat 16 (fieldAt l off 2)

/-- The 32-bit field at offset `off` of a record. -/
def field32 (l : List Byte) (off : Nat) : BitVec 32 := BitVec.ofNat 32 (fieldAt l off 4)

/-- The command of a fetched 32-byte record (Table 10-5); an unlisted code is a BAD_COMMAND (R175). -/
def commandOfRecord (l : List Byte) : Instr :=
  let code := l.getD 0 0
  let o := l.getD 1 0
  let a := field16 l 2
  let b := field16 l 4
  let tag := field16 l 6
  let v1 := field32 l 8
  let v2 := field32 l 12
  let v3 := field32 l 16
  let v4 := field32 l 20
  match code.toNat with
  | 1 => .configure
  | 2 => .poolReset o
  | 3 => .letterOpen a b tag o
  | 4 => .letterClose a
  | 5 => .letterFile a
  | 6 => .letterHold a o
  | 7 => .letterDiscard a
  | 8 => .letterQuery a
  | 9 => .channelSet a o v1 v2 v3
  | 10 => .cursorAttach a b v1 v2
  | 11 => .cursorDetach a
  | 12 => .cursorStep a v1 v2
  | 13 => .cursorRate a v1 v2 v3 v4
  | 14 => .cursorTarget a o v1
  | 15 => .cueAdd a o b tag v1
  | 16 => .cueRemove a o v1
  | _ => .badCommand (some code)

/-- The fields of a command record (Table 10-5). -/
structure Rec where
  code : Nat
  opt : Byte
  a : BitVec 16
  b : BitVec 16
  tag : BitVec 16
  v1 : BitVec 32
  v2 : BitVec 32
  v3 : BitVec 32
  v4 : BitVec 32
  deriving DecidableEq, Repr, Inhabited

/-- The 32 bytes of a record. -/
def Rec.bytes (r : Rec) : List Byte :=
  leBytes 1 r.code ++ [r.opt] ++ leBytes 2 r.a.toNat ++ leBytes 2 r.b.toNat ++ leBytes 2 r.tag.toNat ++
    leBytes 4 r.v1.toNat ++ leBytes 4 r.v2.toNat ++ leBytes 4 r.v3.toNat ++ leBytes 4 r.v4.toNat ++ zeros 8

/-- The record fields of a ring command; unused fields are 0. -/
def recOfCommand (i : Instr) : Option Rec :=
  let z : Rec := { code := 0, opt := 0, a := 0, b := 0, tag := 0, v1 := 0, v2 := 0, v3 := 0, v4 := 0 }
  match i with
  | .configure => some { z with code := 1 }
  | .poolReset o => some { z with code := 2, opt := o }
  | .letterOpen a b tag o => some { z with code := 3, opt := o, a := a, b := b, tag := tag }
  | .letterClose a => some { z with code := 4, a := a }
  | .letterFile a => some { z with code := 5, a := a }
  | .letterHold a o => some { z with code := 6, opt := o, a := a }
  | .letterDiscard a => some { z with code := 7, a := a }
  | .letterQuery a => some { z with code := 8, a := a }
  | .channelSet a o v1 v2 v3 => some { z with code := 9, opt := o, a := a, v1 := v1, v2 := v2, v3 := v3 }
  | .cursorAttach a b v1 v2 => some { z with code := 10, a := a, b := b, v1 := v1, v2 := v2 }
  | .cursorDetach a => some { z with code := 11, a := a }
  | .cursorStep a v1 v2 => some { z with code := 12, a := a, v1 := v1, v2 := v2 }
  | .cursorRate a v1 v2 v3 v4 => some { z with code := 13, a := a, v1 := v1, v2 := v2, v3 := v3, v4 := v4 }
  | .cursorTarget a o v1 => some { z with code := 14, opt := o, a := a, v1 := v1 }
  | .cueAdd a o b tag v1 => some { z with code := 15, opt := o, a := a, b := b, tag := tag, v1 := v1 }
  | .cueRemove a o v1 => some { z with code := 16, opt := o, a := a, v1 := v1 }
  | .badCommand (some c) => some { z with code := c.toNat }
  | .badCommand none | .powerOnReset | .resetRelease _ | .linkReset | .linkResetRelease
  | .transactionAccept _ _ | .memoryResponse _ _ _ | .responseTaken _ | .holdExpiry _
  | .commandProducerIndexWrite _ | .noticeConsumerIndexWrite _ | .configurationReadAnswer _ _
  | .poolResetEnd | .closeCompletion _ | .discardWalkStep | .encodeGrant _ | .codingComplete _
  | .encodeJobComplete _ _ | .decodeGrant _ | .decodeReadAnswer _ _ _ | .decodeJobComplete _
  | .roomWaitingLookup | .writeTaken _ | .runBegin _ | .timeSlotReadAnswer _ _ _ _
  | .exportReadAnswer _ _ _ _ | .importWriteAnswer _ _ _ => none

/-- The 32-byte record of a ring command (Table 10-5); none for the other commands. -/
def recordOfCommand (i : Instr) : Option (List Byte) := (recOfCommand i).map Rec.bytes

end Sys2Proof
end

