-- ==== Sys2Proof/Machine/Clock.lean ====
section
/-! DEFINITION. The timestamp counter (R181). -/

namespace Sys2Proof.Machine

/-- One microsecond passes: the counter counts modulo 2^48 once the reset pin is released (R181, log 3). -/
def tick (s : State) : State := if s.resetPin then s else { s with tsc := s.tsc + 1 }

end Sys2Proof.Machine
end

