-- ==== Sys2Proof/Machine/Codec.lean ====
section
/-! DEFINITION. The frame codec: step sizes, encoding and decoding, frame records and their check (Chapter 4, Table 10-9). -/

namespace Sys2Proof.Machine

open Sys2Proof

/-- step(k) (R63). -/
def stepSize (k : Nat) : Nat := (8 + k % 8) * 2 ^ (k / 8)

/-- adj(m) (Table 4-3). -/
def adjust (m : Nat) : Int :=
  match m with
  | 0 => -1
  | 1 => -1
  | 2 => 0
  | 3 => 0
  | 4 => 2
  | 5 => 3
  | 6 => 4
  | _ => 6

/-- The step index after a code of magnitude m (R64). -/
def nextStep (k m : Nat) : Nat := (clampInt ((k : Int) + adjust m) 0 79).toNat

/-- A value held within -32768 to 32767 (R65). -/
def sat16 (v : Int) : Int := clampInt v (-32768) 32767

/-- The magnitude of a difference at a step (R65). -/
def magnitude (d : Int) (st : Nat) : Nat := min 7 ((2 * d.natAbs + st) / (2 * st))

/-- The reconstruction after a code: sign and magnitude at step index k, from p (R65, R70). -/
def reconstruct (p : Int) (k : Nat) (neg : Bool) (m : Nat) : Int :=
  if neg then sat16 (p - (m * stepSize k : Nat)) else sat16 (p + (m * stepSize k : Nat))

/-- The sign and magnitude with which sample x is coded from reconstruction p at index k (R65). -/
def codeOf (x p : Int) (k : Nat) : Bool × Nat :=
  let m := magnitude (x - p) (stepSize k)
  (decide (x - p < 0) && decide (0 < m), m)

/-- The codes of the samples after the first, and the outgoing step index (R65, R66). -/
def encodeFrom (xs : List Int) (p : Int) (k : Nat) : List Nat × Nat :=
  match xs with
  | [] => ([], k)
  | x :: r =>
    let c := codeOf x p k
    let rest := encodeFrom r (reconstruct p k c.1 c.2) (nextStep k c.2)
    ((if c.1 then 8 + c.2 else c.2) :: rest.1, rest.2)

/-- The codes of a frame's samples 1 to 127 and its outgoing step index (R65). -/
def encodeFrame (xs : List Int) (kin : Nat) : List Nat × Nat := encodeFrom xs.tail (sampleAt xs 0) kin

/-- The samples after p that codes give (R70). -/
def decodeFrom (codes : List Nat) (p : Int) (k : Nat) : List Int :=
  match codes with
  | [] => []
  | c :: r =>
    let m := c % 8
    let p' := reconstruct p k (decide (c / 8 = 1) && decide (0 < m)) m
    p' :: decodeFrom r p' (nextStep k m)

/-- The mean amplitude of a frame (R67). -/
def meanAmplitude (xs : List Int) : Nat := (xs.foldl (fun a x => a + x.natAbs) 0) / 128

/-- The code area of codes, two to a byte, the earlier sample in the low nibble (R68). -/
def packCodes (l : List Nat) : List Byte :=
  match l with
  | a :: b :: r => BitVec.ofNat 8 (a + 16 * b) :: packCodes r
  | [a] => [BitVec.ofNat 8 a]
  | [] => []

/-- The nibbles of a code area, in order of sample number (R68). -/
def unpackCodes (l : List Byte) : List Nat :=
  match l with
  | [] => []
  | b :: r => b.toNat % 16 :: b.toNat / 16 :: unpackCodes r

/-- The XOR of the 16-bit little-endian words of bytes (R69). -/
def xorWords (l : List Byte) : BitVec 16 :=
  match l with
  | lo :: hi :: r => (hi ++ lo : BitVec 16) ^^^ xorWords r
  | _ => 0

/-- A record of its 14 header bytes before the check word and its code area, with the check word computed (R69). -/
def sealRecord (head codes : List Byte) : List Byte :=
  head ++ leBytes 2 (~~~(xorWords head ^^^ xorWords codes)).toNat ++ codes

/-- The kind value of a SPEECH record (Table 10-9). -/
def kindSpeech : Byte := 0x53

/-- The kind value of a HUSH record (Table 10-9). -/
def kindHush : Byte := 0x48

/-- The record an encode job writes (R66 to R69). -/
def encodeRecord (letter : Nat) (xs : List Int) (kin : Nat) : List Byte :=
  let x0 : BitVec 16 := BitVec.ofInt 16 (sampleAt xs 0)
  sealRecord
    ([kindSpeech, BitVec.ofNat 8 kin] ++ leBytes 2 letter ++ leBytes 2 x0.toNat ++
      leBytes 2 (meanAmplitude xs) ++ zeros 6)
    (packCodes (encodeFrame xs kin).1)

/-- The record made for a hush frame of a letter on export (R165). -/
def hushRecord (letter : Nat) : List Byte :=
  sealRecord ([kindHush, 0] ++ leBytes 2 letter ++ zeros 10) (zeros 64)

/-- An imported record rewritten with the channel's letter and a new check word (R170). -/
def rewriteRecord (letter : Nat) (r : List Byte) : List Byte :=
  sealRecord (bytesAt r 0 2 ++ leBytes 2 letter ++ bytesAt r 4 10) (bytesAt r 16 64)

/-- The kind byte of a record. -/
def recordKind (r : List Byte) : Byte := r.getD 0 0

/-- The initial step index of a record. -/
def recordStep (r : List Byte) : Nat := fieldAt r 1 1

/-- The mean amplitude field of a record. -/
def recordAmplitude (r : List Byte) : Nat := fieldAt r 6 2

/-- A record passes its check: the XOR of its forty words is FFFFh (R69). -/
def recordPasses (r : List Byte) : Bool := xorWords r == 0xFFFF

/-- The first test of R71 that a record fails. -/
def testRecord (r : List Byte) : Option Cause :=
  if recordKind r ≠ kindSpeech then some .kind
  else if 79 < recordStep r then some .step
  else if recordPasses r then none
  else some .check

/-- The test of an imported record (R168): a HUSH record passes whatever its other fields. -/
def testImport (r : List Byte) : Option Cause := if recordKind r = kindHush then none else testRecord r

/-- The 128 samples of a record that passes its tests (R70). -/
def decodeRecord (r : List Byte) : List Int :=
  let x0 := sampleOfBytes (r.getD 4 0) (r.getD 5 0)
  x0 :: decodeFrom ((unpackCodes (bytesAt r 16 64)).take 127) x0 (recordStep r)

/-- The result of a decode job whose slot read was answered (R79). -/
def decodeResult (code : MemCode) (data : List Byte) : DecResult :=
  match code with
  | .other _ => .memory
  | .okay =>
    match testRecord data with
    | none => .good (decodeRecord data)
    | some c => .damaged c

end Sys2Proof.Machine
end

