-- ==== Sys2Proof/Machine/Segments.lean ====
section
/-! DEFINITION. Segment lists: frame lookup, splitting, extension, and the edit a placement makes (Sections 3.1 and 3.4). -/

namespace Sys2Proof.Machine

open Sys2Proof

/-- Frames of a segment. -/
def Seg.frames (g : Seg) : Nat :=
  match g with
  | .speech _ _ n => n
  | .hush n => n

/-- The first n frames of a segment (the head part of a split, R57). -/
def Seg.head (g : Seg) (n : Nat) : Seg :=
  match g with
  | .speech b s _ => .speech b s n
  | .hush _ => .hush n

/-- A segment without its first n frames (the tail part of a split, R57). -/
def Seg.tail (g : Seg) (n : Nat) : Seg :=
  match g with
  | .speech b s k => .speech b (s + n) (k - n)
  | .hush k => .hush (k - n)

/-- What a frame lookup gives (R43). -/
inductive FrameLoc where
  | speech (bin slot : Nat)
  | hush
  | beyond
  deriving DecidableEq, Repr, Inhabited

/-- The frame f of a segment list. -/
def segLookup (l : List Seg) (f : Nat) : FrameLoc :=
  match l with
  | [] => .beyond
  | g :: r =>
    if f < g.frames then
      match g with
      | .speech b s _ => .speech b (s + f)
      | .hush _ => .hush
    else segLookup r (f - g.frames)

/-- Frame lookup in a letter (R43). -/
def Letter.lookup (l : Letter) (f : Nat) : FrameLoc := if f < l.length then segLookup l.segs f else .beyond

/-- A list split at frame e; a segment that e lies strictly inside is split in two (R57). -/
def splitSegs (l : List Seg) (e : Nat) : List Seg × List Seg :=
  match l with
  | [] => ([], [])
  | g :: r =>
    if e = 0 then ([], g :: r)
    else if g.frames ≤ e then
      let p := splitSegs r (e - g.frames)
      (g :: p.1, p.2)
    else ([g.head e], g.tail e :: r)

/-- The kind of a frame to be placed, with its slot. -/
inductive Item where
  | speech (bin slot : Nat)
  | hush
  deriving DecidableEq, Repr, Inhabited

/-- A new segment of one frame (R55). -/
def Item.seg (i : Item) : Seg :=
  match i with
  | .speech b s => .speech b s 1
  | .hush => .hush 1

/-- The segment that an item extends to, if it may extend it; a hush segment must hold fewer than `lim` frames (R55). -/
def Item.extend (i : Item) (lim : Nat) (g : Seg) : Option Seg :=
  match i, g with
  | .speech b s, .speech b' s' n => if b = b' ∧ s' + n = s then some (.speech b' s' (n + 1)) else none
  | .hush, .hush n => if n < lim then some (.hush (n + 1)) else none
  | .speech _ _, .hush _ => none
  | .hush, .speech _ _ _ => none

/-- Place an item after the segments before e: extend the last of them, or add a segment (R55). -/
def addItem (i : Item) (lim : Nat) (before : List Seg) : List Seg :=
  match before with
  | [] => [i.seg]
  | [g] =>
    match i.extend lim g with
    | some g' => [g']
    | none => [g, i.seg]
  | g :: h :: r => g :: addItem i lim (h :: r)

/-- The kind of a placement (R53, R60); `unchanged` is a HUSH frame that overwrites a HUSH frame. -/
inductive PlaceKind where
  | append | insert | overwrite | unchanged
  deriving DecidableEq, Repr, Inhabited

/-- The item of a finished frame. -/
def FFrame.item (f : FFrame) : Item :=
  if f.speech then
    match f.place with
    | some p => .speech p.1 p.2
    | none => .hush
  else .hush

/-- The kind of the placement of a frame in a letter (R53, R58). -/
def placeKind (f : FFrame) (l : Letter) : PlaceKind :=
  if f.target = l.length then .append
  else if f.mode = .insert then .insert
  else if f.item = .hush ∧ l.lookup f.target = .hush then .unchanged
  else .overwrite

/-- Whether the frame's hush cap applies: above 0, at an APPEND or an INSERT (R53, R98). -/
def capApplies (f : FFrame) (l : Letter) : Option Nat :=
  match f.cap with
  | none => none
  | some c => if 0 < c ∧ (f.target = l.length ∨ f.mode = .insert) then some c else none

/-- The number of frames a hush segment must hold fewer of to be extended by the frame (R55). -/
def hushLimit (f : FFrame) (l : Letter) : Nat :=
  match capApplies f l with
  | some c => min Config.maxHush c
  | none => Config.maxHush

/-- The segment list after a placement (R56, R57, R58). -/
def editSegs (f : FFrame) (l : Letter) : List Seg :=
  let p := splitSegs l.segs f.target
  match placeKind f l with
  | .append | .insert => addItem f.item (hushLimit f l) p.1 ++ p.2
  | .overwrite => addItem f.item (hushLimit f l) p.1 ++ (splitSegs p.2 1).2
  | .unchanged => l.segs

/-- The limit a placement fails, if any (R54). -/
def placeLimit (f : FFrame) (l : Letter) (freeSegs : Nat) : Option DropReason :=
  let k := placeKind f l
  if (k = .append ∨ k = .insert) ∧ l.length = Config.maxFrames then some .length
  else if l.segs.length + freeSegs < (editSegs f l).length then some .segments
  else none

/-- Cues after an INSERT at e (R154). -/
def shiftCues (cues : List Cue) (e : Nat) : List Cue :=
  cues.map fun c => if e ≤ c.pos then { c with pos := c.pos + 1 } else c

/-- The bin whose slot an OVERWRITE releases (R58). -/
def releasedBin (f : FFrame) (l : Letter) : Option Nat :=
  match placeKind f l, l.lookup f.target with
  | .overwrite, .speech b _ => some b
  | _, _ => none

/-- 1 if the condition holds, else 0. -/
def one (b : Bool) : Nat := if b then 1 else 0

/-- The letter after a placement (R56, R57, R58, R154). -/
def Letter.place (l : Letter) (f : FFrame) : Letter :=
  let sp := one (decide (f.item ≠ .hush))
  let hu := one (decide (f.item = .hush))
  match placeKind f l with
  | .append =>
    { l with segs := editSegs f l, length := l.length + 1, speech := l.speech + sp, hush := l.hush + hu }
  | .insert =>
    { l with segs := editSegs f l, length := l.length + 1, speech := l.speech + sp, hush := l.hush + hu,
             cues := shiftCues l.cues f.target }
  | .overwrite =>
    let osp := one (decide (l.lookup f.target ≠ .hush))
    let ohu := one (decide (l.lookup f.target = .hush))
    { l with segs := editSegs f l, speech := l.speech + sp - osp, hush := l.hush + hu - ohu }
  | .unchanged => l

/-- The frames a hush cap counts: the frames up to e of the HUSH segment that would end at e after the
placement's split; 0 when that segment is SPEECH or there is none (R98). -/
def hushBefore (l : List Seg) (e : Nat) : Nat :=
  match (splitSegs l e).1.getLast? with
  | some (.hush n) => n
  | _ => 0

/-- Whether the cap discards a HUSH frame (R98). -/
def capDiscards (f : FFrame) (l : Letter) : Bool :=
  match capApplies f l with
  | some c => decide (c ≤ hushBefore l.segs f.target)
  | none => false

/-! ### Cue lists (R149) -/

/-- The rank of a kind in list order. -/
def CueKind.rank (k : CueKind) : Nat :=
  match k with
  | .instruction => 0
  | .spelling => 1
  | .brk => 2

/-- The code of a kind (Table 10-5). -/
def CueKind.code (k : CueKind) : Nat := k.rank + 1

/-- The kind of a code. -/
def CueKind.ofCode (n : Nat) : Option CueKind :=
  match n with
  | 1 => some .instruction
  | 2 => some .spelling
  | 3 => some .brk
  | _ => none

/-- The cue stands at this position and kind. -/
def Cue.isAt (c : Cue) (p : Nat) (k : CueKind) : Bool := decide (c.pos = p) && decide (c.kind = k)

/-- A cue stands before another in list order. -/
def Cue.before (c d : Cue) : Bool := decide (c.pos < d.pos) || (decide (c.pos = d.pos) && decide (c.kind.rank < d.kind.rank))

/-- A cue list with a cue added at its place. -/
def insertCue (c : Cue) (l : List Cue) : List Cue :=
  match l with
  | [] => [c]
  | d :: r => if c.before d then c :: d :: r else d :: insertCue c r

/-- A cue list without the cue at a position and kind. -/
def removeCue (p : Nat) (k : CueKind) (l : List Cue) : List Cue := l.filter fun c => !c.isAt p k

end Sys2Proof.Machine
end

