-- ==== Sys2Proof/Machine/Ops.lean ====
section
/-! DEFINITION. Named operations over the state: reading and writing the tables, the two engines, the bins with their
freeing check and slot handout, and the memory port. -/

namespace Sys2Proof.Machine

open Sys2Proof

namespace State

/-- Letter record n (R20). -/
def letter (s : State) (n : Nat) : Letter := Tab.get Letter.free s.letters n

/-- Give letter n a record. -/
def setLetter (s : State) (n : Nat) (l : Letter) : State :=
  { s with letters := Tab.set Letter.free s.letters n l }

/-- Recording channel c (R83). -/
def channel (s : State) (c : Nat) : Channel := Tab.get Channel.initial s.channels c

/-- Give channel c a record. -/
def setChannel (s : State) (c : Nat) (ch : Channel) : State :=
  { s with channels := Tab.set Channel.initial s.channels c ch }

/-- Playback cursor c (R125). -/
def cursor (s : State) (c : Nat) : Cursor := Tab.get Cursor.initial s.cursors c

/-- Give cursor c a record. -/
def setCursor (s : State) (c : Nat) (k : Cursor) : State :=
  { s with cursors := Tab.set Cursor.initial s.cursors c k }

/-- Bin record b (R44). -/
def bin (s : State) (b : Nat) : Bin := Tab.get Bin.fresh s.bins b

/-- Give bin b a record. -/
def setBin (s : State) (b : Nat) (r : Bin) : State := { s with bins := Tab.set Bin.fresh s.bins b r }

/-- Transaction entry e; none when it is free (R10). -/
def entry (s : State) (e : Nat) : Option Entry := Tab.find s.entries e

/-- Hold an entry. -/
def setEntry (s : State) (e : Nat) (x : Entry) : State := { s with entries := Tab.put s.entries e x }

/-- Free an entry. -/
def freeEntry (s : State) (e : Nat) : State := { s with entries := Tab.erase s.entries e }

/-- Codec engine e (R74). -/
def engine (s : State) (e : Fin 2) : Engine := if e = 0 then s.engine0 else s.engine1

/-- Give engine e a record. -/
def setEngine (s : State) (e : Fin 2) (x : Engine) : State :=
  if e = 0 then { s with engine0 := x } else { s with engine1 := x }

/-- Issue a request on the memory port. -/
def emit (s : State) (r : PortReq) : State := { s with portOut := s.portOut ++ [r] }

/-- Issue one of the part's own writes (R52, R178, R180). -/
def emitWrite (s : State) (addr : Nat) (data : List Byte) : State :=
  s.emit { entry := none, write := true, addr := BitVec.ofNat 48 addr, len := data.length,
           strobes := List.replicate data.length true, data := data }

/-- Issue one of the part's own reads (R52, R174, R176). -/
def emitRead (s : State) (addr len : Nat) : State :=
  s.emit { entry := none, write := false, addr := BitVec.ofNat 48 addr, len := len, strobes := [], data := [] }

/-- The control-page base (R173). -/
def cp (s : State) : Nat := cpBase s.cpsel

/-- The address of a slot in the configured frame store (R52). -/
def slotAddr (s : State) (b slot : Nat) : Nat := (s.cfg.getD default).slotAddr b slot

/-- The hold limit (R15). -/
def holdLimit (s : State) : Nat := (s.cfg.getD default).holdLimit

end State

/-! ### Bins (R45 to R51) -/

/-- The freeing check finds the bin unreferenced (R50). -/
def Bin.unreferenced (b : Bin) : Bool :=
  decide (b.state = .shut) && decide (b.live = 0) && decide (b.inFlight = 0) && decide (b.reads = 0)

/-- Change a bin and run the freeing check on it (R50). -/
def updateBin (b : Nat) (f : Bin → Bin) (s : State) : State :=
  let r := f (s.bin b)
  if r.unreferenced then
    { s.setBin b { r with state := .free, fill := 0 } with freeBins := s.freeBins ++ [b] }
  else s.setBin b r

/-- The number of the bin that a channel owns in a list of bins. -/
def findOwned (c : Nat) (l : List (Nat × Bin)) : Option Nat :=
  match l with
  | [] => none
  | (b, r) :: t => if r.state = .open_ c then some b else findOwned c t

/-- The OPEN bin of a channel (R47, R83). -/
def State.openBin (s : State) (c : Nat) : Option Nat := findOwned c s.bins

/-- A bin after its slot number `fill` is handed out to channel c (R47). -/
def Bin.handOut (r : Bin) (c : Nat) : Bin :=
  { r with state := if r.fill + 1 < Config.slotsPerBin then .open_ c else .shut
           fill := r.fill + 1, inFlight := r.inFlight + 1 }

/-- Hand out a slot to channel c: of its OPEN bin, else of the bin at the head of the free bin list,
else none (R47). -/
def handOut (c : Nat) (s : State) : Option (Nat × Nat) × State :=
  match s.openBin c with
  | some b => (some (b, (s.bin b).fill), updateBin b (fun r => r.handOut c) s)
  | none =>
    match s.freeBins with
    | [] => (none, s)
    | b :: r => (some (b, (s.bin b).fill), updateBin b (fun x => x.handOut c) { s with freeBins := r })

/-- Settle the slot of a dropped frame: in flight falls by 1 (R48). -/
def settleSlot (place : Option (Nat × Nat)) (s : State) : State :=
  match place with
  | none => s
  | some p => updateBin p.1 (fun r => { r with inFlight := r.inFlight - 1 }) s

/-- Lower the live count of a bin (R51). -/
def lowerLive (b n : Nat) (s : State) : State := updateBin b (fun r => { r with live := r.live - n }) s

/-- Raise the reads-in-flight count of a bin (R49). -/
def holdBin (b : Nat) (s : State) : State := updateBin b (fun r => { r with reads := r.reads + 1 }) s

/-- Release a read's hold of a bin (R49). During a pool reset the rebuilt table is not changed (R62). -/
def releaseBin (b : Nat) (s : State) : State :=
  if s.part = .resetting then s else updateBin b (fun r => { r with reads := r.reads - 1 }) s

/-! ### Letters -/

/-- The channel attached to a letter is FLUSHING (R22). -/
def State.flushing (s : State) (l : Letter) : Bool :=
  match l.channel with
  | some c => decide ((s.channel c).state = .flushing)
  | none => false

/-- A transitional letter: in DISCARDING, or in RECORDING with a FLUSHING channel (R21). -/
def State.transitional (s : State) (n : Nat) : Bool :=
  let l := s.letter n
  decide (l.state = .discarding) || (decide (l.state = .recording) && s.flushing l)

/-- Set DAMAGED on a letter, unless it is FREE (R32). -/
def setDamaged (n : Nat) (s : State) : State :=
  if (s.letter n).state = .free then s else s.setLetter n { s.letter n with damaged := true }

/-- Set INCOMPLETE on a letter, unless it is FREE (R32). -/
def setIncomplete (n : Nat) (s : State) : State :=
  if (s.letter n).state = .free then s else s.setLetter n { s.letter n with incomplete := true }

/-- The discard queue: the letters in DISCARDING in the order taken (R36). -/
def State.discardQueue (s : State) : List LongCmd := s.longs.filter (·.discard)

/-! ### Free values -/

/-- Advance to the next free value (log 12). -/
def State.bumpFree (s : State) : State := { s with freeIdx := s.freeIdx + 1 }

end Sys2Proof.Machine
end

