-- ==== Sys2Proof/Machine/Flags.lean ====
section
/-! DEFINITION. What the part reports: notice records (Tables 10-7, 10-8), posting and the overflow flag (R178), the loud
count and the interrupt line (R179), and the status block (R180). -/

namespace Sys2Proof.Machine

open Sys2Proof

/-- Notice kinds (Table 10-7). -/
inductive NoticeKind where
  | commandDone | letterReport | cueReached | progress | endReached | holdExpired | accessRefused
  | frameDropped | frameDamaged | importRejected | memoryFault | noticesLost
  deriving DecidableEq, Repr, Inhabited

/-- The code of a notice kind (Table 10-7, byte 00h). -/
def NoticeKind.code (k : NoticeKind) : Nat :=
  match k with
  | .commandDone => 1
  | .letterReport => 2
  | .cueReached => 3
  | .progress => 4
  | .endReached => 5
  | .holdExpired => 6
  | .accessRefused => 7
  | .frameDropped => 8
  | .frameDamaged => 9
  | .importRejected => 10
  | .memoryFault => 11
  | .noticesLost => 12

/-- The code of a result (Table 10-7). -/
def Result.code (r : Result) : Nat :=
  match r with
  | .done => 0
  | .outOfRange => 1
  | .busy => 2
  | .wrongState => 3
  | .inUse => 4
  | .noRoom => 5
  | .badCommand => 6
  | .notConfigured => 7

/-- The code of a refusal reason (Table 10-7). -/
def Reason.code (r : Reason) : Nat :=
  match r with
  | .notRecording => 1
  | .letterFree => 2
  | .readOnlyView => 3
  | .misaligned => 4
  | .channelFlushing => 5
  | .cursorIdle => 6
  | .resetting => 7
  | .crossesSpan => 8

/-- The code of a drop reason (Table 10-7). -/
def DropReason.code (r : DropReason) : Nat :=
  match r with
  | .bins => 1
  | .segments => 2
  | .length => 3
  | .memory => 4

/-- The code of a cause (Table 10-7). -/
def Cause.code (c : Cause) : Nat :=
  match c with
  | .kind => 1
  | .step => 2
  | .check => 3

/-- A notice before it is stamped: the fields of Table 10-7 and the detail bytes from 0Ch on. -/
structure Notice where
  kind : NoticeKind
  ringSlot : Nat
  letter : Option Nat
  /-- Channel or cursor. -/
  unit : Option Nat
  code : Nat
  detail : List Byte
  deriving DecidableEq, Repr, Inhabited

/-- Byte 04h: a channel or cursor number, FFh when none; a number above 255 does not fit (log 11). -/
def unitByte (u : Option Nat) : Byte :=
  match u with
  | none => 0xFF
  | some n => if n < 256 then BitVec.ofNat 8 n else Config.wideUnit n

/-- Bytes 02h-03h: a letter number, FFFFh when none. -/
def letterBytes (l : Option Nat) : List Byte := leBytes 2 (l.getD 0xFFFF)

/-- The 64 bytes of a notice stamped with a time (Table 10-7); bytes not named are zero (log 14). -/
def Notice.bytes (n : Notice) (now : Stamp) : List Byte :=
  leBytes 1 n.kind.code ++ leBytes 1 n.ringSlot ++ letterBytes n.letter ++ [unitByte n.unit] ++
    leBytes 1 n.code ++ leBytes 6 now.toNat ++ n.detail ++ zeros (52 - n.detail.length)

namespace State

/-- Notice ring size S. -/
def ringSize (s : State) : Nat := (s.cfg.getD default).ringSize

/-- NWR's consumer copy modulo the ring size (R173, R178). -/
def consIdx (s : State) : Nat := s.consCopy.toNat % s.ringSize

/-- The loud mark of a ring slot. -/
def loudMark (s : State) (slot : Nat) : Bool := Tab.get false s.loud slot

/-- The loud count: slots from the consumer copy up to P - 1, modulo S, whose mark is set (R179). -/
def loudCount (s : State) : Nat :=
  ((List.range ((s.prod + s.ringSize - s.consIdx) % s.ringSize)).filter
    fun i => s.loudMark ((s.consIdx + i) % s.ringSize)).length

/-- The interrupt line (R179). -/
def irq (s : State) : Bool :=
  decide (s.part ≠ .unconfigured) && (s.cfg.getD default).irqEnable && decide (0 < s.loudCount)

/-- The ring is full: (P + 1) mod S is the consumer copy (R178). -/
def ringFull (s : State) : Bool := decide ((s.prod + 1) % s.ringSize = s.consIdx)

/-- A notice kind is not in the quiet mask (R178). -/
def isLoud (s : State) (k : NoticeKind) : Bool := !(s.cfg.getD default).quiet.getLsbD k.code

/-- Write one notice at slot P, set or clear its loud mark, and advance P (R178 step 3). -/
def writeNotice (s : State) (n : Notice) : State :=
  { s.emitWrite ((s.cfg.getD default).ringBase + 64 * s.prod) (n.bytes s.tsc) with
    loud := Tab.set false s.loud s.prod (s.isLoud n.kind)
    prod := (s.prod + 1) % s.ringSize }

end State

/-- The code of a part state (Table 10-6). -/
def PartState.code (p : PartState) : Nat :=
  match p with
  | .unconfigured => 0
  | .running => 1
  | .resetting => 2

/-- The 32 bytes of the status block (Table 10-6). -/
def State.statusBytes (s : State) : List Byte :=
  leBytes 1 s.part.code ++ leBytes 1 (one s.overflow) ++ leBytes 1 s.lastResult.code ++
    leBytes 1 s.lastSlot ++ leBytes 2 s.consumer ++ leBytes 2 s.prod ++ leBytes 4 s.freeBins.length ++
    leBytes 2 s.freeSegs ++ leBytes 2 s.freeCues ++ leBytes 6 s.tsc.toNat ++ zeros 10

/-- NWR writes the status block (R180). -/
def State.writeStatus (s : State) : State := s.emitWrite (s.cp + 0x80) s.statusBytes

/-- The NOTICES_LOST notice (Table 10-8). -/
def noticesLost (lost : Nat) : Notice :=
  { kind := .noticesLost, ringSlot := 0, letter := none, unit := none, code := 0,
    detail := zeros 4 ++ leBytes 4 lost }

/-- Step 1 of R178: NOTICES_LOST first, when the overflow flag is set and the ring has room again. -/
def State.reportLost (s : State) : State :=
  if s.overflow && !s.ringFull then
    { s.writeNotice (noticesLost s.lost) with overflow := false, lost := 0 }
  else s

/-- Steps 2 and 3 of R178: discard and count the notice when the ring is full, else write it. -/
def State.ringNotice (s : State) (n : Notice) : State :=
  if s.ringFull then { s with overflow := true, lost := min (s.lost + 1) 65535 } else s.writeNotice n

/-- Post a notice through NWR (R178), with the status block write that follows (R180). -/
def post (n : Notice) (s : State) : State :=
  if s.part = .unconfigured then s else ((s.reportLost).ringNotice n).writeStatus

/-! ### The notices of each kind -/

/-- COMMAND_DONE (R22, R175). -/
def commandDone (slot : Nat) (letter unit : Option Nat) (r : Result) (detail : List Byte) : Notice :=
  { kind := .commandDone, ringSlot := slot, letter := letter, unit := unit, code := r.code, detail := detail }

/-- The letter named by a view and number: views 0-3 (R7). -/
def viewLetter (view num : Nat) : Option Nat := if view < 4 then some num else none

/-- The cursor named by a view and number: view 4 (R7). -/
def viewCursor (view num : Nat) : Option Nat := if view = 4 then some num else none

/-- ACCESS_REFUSED for an entry (R7); `chan` is the refusing channel, if a channel refuses. -/
def accessRefused (reason : Reason) (e : Entry) (chan : Option Nat) : Notice :=
  { kind := .accessRefused, ringSlot := 0, letter := viewLetter e.view e.num
    unit := chan <|> viewCursor e.view e.num, code := reason.code
    detail := leBytes 1 e.view ++ leBytes 1 (one e.write) ++ [e.id, 0] ++ leBytes 4 e.offset }

/-- The code of a waiting state (Table 10-8, HOLD_EXPIRED). -/
def EntryState.code (s : EntryState) : Nat :=
  match s with
  | .waitingSpace => 1
  | .waitingRun => 2
  | .waitingFrames => 3
  | .forwarded | .waitingMemory | .ready => 0

/-- HOLD_EXPIRED for an entry (R15). -/
def holdExpired (e : Entry) (chan : Option Nat) : Notice :=
  { kind := .holdExpired, ringSlot := 0, letter := viewLetter e.view e.num
    unit := chan <|> viewCursor e.view e.num, code := 0
    detail := leBytes 1 e.view ++ leBytes 1 (one e.write) ++ [e.id] ++ leBytes 1 e.st.code }

/-- FRAME_DROPPED (R102). -/
def frameDropped (letter chan target : Nat) (r : DropReason) : Notice :=
  { kind := .frameDropped, ringSlot := 0, letter := some letter, unit := some chan, code := r.code
    detail := zeros 4 ++ leBytes 4 target }

/-- FRAME_DAMAGED (R71, R166). -/
def frameDamaged (letter frame b slot : Nat) (c : Cause) : Notice :=
  { kind := .frameDamaged, ringSlot := 0, letter := some letter, unit := none, code := c.code
    detail := zeros 4 ++ leBytes 4 frame ++ leBytes 4 b ++ leBytes 4 slot }

/-- MEMORY_FAULT (R117, R160, R166). -/
def memoryFault (letter frame b slot : Nat) : Notice :=
  { kind := .memoryFault, ringSlot := 0, letter := some letter, unit := none, code := 0
    detail := zeros 4 ++ leBytes 4 frame ++ leBytes 4 b ++ leBytes 4 slot }

/-- IMPORT_REJECTED (R168). -/
def importRejected (e : Entry) (chan : Nat) (c : Cause) : Notice :=
  { kind := .importRejected, ringSlot := 0, letter := some e.num, unit := some chan, code := c.code
    detail := [0, 0, e.id, 0] ++ leBytes 4 e.firstUnit }

/-- CUE_REACHED at target g of a read that reaches frame f, for the first of `cues` at g (R138). -/
def cueReached (letter cur g f : Nat) (c : Cue) (count : Nat) : Notice :=
  { kind := .cueReached, ringSlot := 0, letter := some letter, unit := some cur, code := 0
    detail := leBytes 1 c.kind.code ++ leBytes 1 count ++ leBytes 2 c.tag.toNat ++ leBytes 4 g ++ leBytes 4 f }

/-- PROGRESS (R138). -/
def progress (letter cur g f : Nat) : Notice :=
  { kind := .progress, ringSlot := 0, letter := some letter, unit := some cur, code := 0
    detail := zeros 4 ++ leBytes 4 g ++ leBytes 4 f }

/-- END_REACHED (R136). -/
def endReached (letter cur first len : Nat) : Notice :=
  { kind := .endReached, ringSlot := 0, letter := some letter, unit := some cur, code := 0
    detail := zeros 4 ++ leBytes 4 first ++ leBytes 4 len }

/-- The code of a letter state in LETTER_REPORT (Table 10-8); a DISCARDING letter is not reported (R22). -/
def LetterState.code (s : LetterState) : Nat :=
  match s with
  | .free => 0
  | .recording => 1
  | .ready => 2
  | .filed => 3
  | .discarding => 0

/-- LETTER_REPORT (R30); `absent` stands in the closed-time field when there is no closed time (log 12). -/
def letterReport (slot n : Nat) (l : Letter) (absent : Stamp) : Notice :=
  { kind := .letterReport, ringSlot := slot, letter := some n, unit := l.channel, code := 0
    detail := leBytes 1 l.state.code ++
      leBytes 1 (one l.urgent + 2 * one l.hold + 4 * one l.damaged + 8 * one l.incomplete +
        16 * one l.closed.isSome) ++
      leBytes 1 l.cues.length ++ leBytes 1 l.cursorCount ++ leBytes 4 l.length ++ leBytes 4 l.speech ++
      leBytes 4 l.hush ++ leBytes 2 l.segs.length ++ leBytes 2 l.tag.toNat ++
      leBytes 6 l.opened.toNat ++ leBytes 6 (l.closed.getD absent).toNat }

end Sys2Proof.Machine
end

