-- ==== Sys2Proof/Machine/CacheOps.lean ====
section
/-! DEFINITION. Shared operations of the read side: answering entries, copying decoded samples, the decode cache with its
recency order, the decode request queue and the room waiting list (Chapters 1, 6 and 7). -/

namespace Sys2Proof.Machine

open Sys2Proof

/-! ### Answering entries (R7, R11, R13) -/

/-- The entry in READY with response OK; a write's data has been taken. -/
def Entry.ok (e : Entry) : Entry :=
  { e with st := .ready, response := some .ok, buf := if e.write then [] else e.buf }

/-- The entry in READY with REFUSED and zero data (R7, R13). -/
def Entry.refuse (e : Entry) : Entry :=
  { e with st := .ready, outcome := .refused, response := some .refused
           buf := if e.write then [] else zeros e.len, needs := [], plan := [], copied := [], cued := [] }

/-- Answer entry n REFUSED and post ACCESS_REFUSED (R7). -/
def refuseEntry (n : Nat) (reason : Reason) (chan : Option Nat) (s : State) : State :=
  match s.entry n with
  | none => s
  | some e => post (accessRefused reason e chan) (s.setEntry n e.refuse)

/-- Answer entry n OK. -/
def okEntry (n : Nat) (s : State) : State :=
  match s.entry n with
  | none => s
  | some e => s.setEntry n e.ok

/-! ### Copying samples (R119, R132, R134) -/

/-- Sample i of a letter among copied frames. -/
def copiedSample (copied : List (Nat × List Int)) (i : Nat) : Option Int :=
  (Tab.find copied (i / 128)).map fun xs => sampleAt xs (i % 128)

/-- The interpolation of R132. -/
def interpolate (x y : Int) (f : Nat) : Int := x + ((y - x) * f + 2048) / 4096

/-- The output at a position, once every sample it uses is copied (R132, R134). -/
def outSample (copied : List (Nat × List Int)) (p : OutPos) : Option Int :=
  match p with
  | .beforeBase => some 0
  | .beyondEnd => some 0
  | .at i f last =>
    match copiedSample copied i with
    | none => none
    | some x =>
      if f = 0 ∨ last then some x
      else (copiedSample copied (i + 1)).map fun y => interpolate x y f

/-- The buffer of a cursor read with every output written that can be computed (R130, R134). -/
def planBytes (off len : Nat) (plan : List OutPos) (copied : List (Nat × List Int)) (buf : List Byte) :
    List Byte :=
  (List.range len).map fun j =>
    match outSample copied (plan.getD ((off + j) / 2 - off / 2) .beforeBase) with
    | some x => sampleByte x ((off + j) % 2 = 1)
    | none => buf.getD j 0

/-- The buffer of a PCM read with the bytes of one frame written (R120, R121). -/
def pcmBytes (view off len frame : Nat) (xs : List Int) (buf : List Byte) : List Byte :=
  (List.range len).map fun j =>
    if pcmSample view (off + j) / 128 = frame then
      pcmByte view (off + j) (sampleAt xs (pcmSample view (off + j) % 128))
    else buf.getD j 0

/-- An entry after one of its needs is copied; it enters READY with the last (R119, R134). -/
def Entry.copyFrame (e : Entry) (frame : Nat) (xs : List Int) : Entry :=
  let left := e.needs.filter fun f => decide (f ≠ frame)
  let copied := if e.view = 4 then (frame, xs) :: e.copied else e.copied
  let buf :=
    if e.view = 4 then planBytes e.offset e.len e.plan copied e.buf
    else pcmBytes e.view e.offset e.len frame xs e.buf
  let e' := { e with needs := left, copied := copied, buf := buf }
  if left = [] then e'.ok else e'

/-- Copy a need from the samples of its frame (R119). -/
def copyNeed (xs : List Int) (s : State) (n : Need) : State :=
  match s.entry n.entry with
  | none => s
  | some e => s.setEntry n.entry (e.copyFrame n.frame xs)

/-! ### The decode cache (R113 to R118) -/

/-- The entry is VALID with this key. -/
def CacheEntry.validFor (l f : Nat) (e : CacheEntry) : Bool :=
  match e.st with
  | .valid l' f' _ => decide (l' = l) && decide (f' = f)
  | _ => false

/-- The entry is FILLING with this key. -/
def CacheEntry.fillingFor (l f : Nat) (e : CacheEntry) : Bool :=
  match e.st with
  | .filling l' f' _ _ _ => decide (l' = l) && decide (f' = f)
  | _ => false

/-- The entry is EMPTY. -/
def CacheEntry.isEmpty (e : CacheEntry) : Bool :=
  match e.st with
  | .empty => true
  | _ => false

/-- The entry is VALID. -/
def CacheEntry.isValid (e : CacheEntry) : Bool :=
  match e.st with
  | .valid _ _ _ => true
  | _ => false

/-- The samples of a VALID entry. -/
def CacheEntry.samples (e : CacheEntry) : List Int :=
  match e.st with
  | .valid _ _ xs => xs
  | _ => []

/-- Give entry `num` a state and move it to the most-recent end (R113). -/
def cacheRecent (num : Nat) (st : CacheState) (c : List CacheEntry) : List CacheEntry :=
  (c.filter fun e => decide (e.num ≠ num)) ++ [{ num := num, st := st }]

/-- Make entry `num` EMPTY and move it to the least-recent end (R113). -/
def cacheEmpty (num : Nat) (c : List CacheEntry) : List CacheEntry :=
  { num := num, st := .empty } :: c.filter fun e => decide (e.num ≠ num)

/-- The number of the entry a decode grant claims: the least-recent EMPTY entry, else the least-recent VALID one (R116). -/
def claimEntry (c : List CacheEntry) : Option Nat :=
  match c.find? (·.isEmpty) with
  | some e => some e.num
  | none => (c.find? (·.isValid)).map (·.num)

/-- A need joins the waiters of a FILLING entry (R114). -/
def CacheEntry.join (n : Need) (e : CacheEntry) : CacheEntry :=
  match e.st with
  | .filling l f b sl w => if l = n.letter ∧ f = n.frame then { e with st := .filling l f b sl (w ++ [n]) } else e
  | _ => e

/-- A FILLING entry becomes STALE if `p` holds of its key (R118). -/
def CacheEntry.stale (p : Nat → Nat → Bool) (e : CacheEntry) : CacheEntry :=
  match e.st with
  | .filling l f b sl w => if p l f then { e with st := .stale l f b sl w } else e
  | _ => e

/-- The entry is VALID with a key of which `p` holds. -/
def CacheEntry.validAt (p : Nat → Nat → Bool) (e : CacheEntry) : Bool :=
  match e.st with
  | .valid l f _ => p l f
  | _ => false

/-- Invalidate the entries whose key satisfies `p` (R118): VALID becomes EMPTY at the least-recent end,
FILLING becomes STALE (log 21). -/
def invalidate (p : Nat → Nat → Bool) (s : State) : State :=
  { s with cache :=
      ((s.cache.filter (CacheEntry.validAt p)).map fun e => { num := e.num, st := .empty }) ++
        ((s.cache.filter fun e => !CacheEntry.validAt p e).map (CacheEntry.stale p)) }

/-! ### The decode request queue (R111 to R115) -/

/-- A request stands for this letter and frame. -/
def Request.isFor (l f : Nat) (r : Request) : Bool := decide (r.letter = l) && decide (r.frame = f)

/-- A need joins the waiters of the request for its frame (R114). -/
def Request.join (n : Need) (r : Request) : Request :=
  if r.isFor n.letter n.frame then { r with waiters := r.waiters ++ [n] } else r

/-- A queue with a request added in the order of R111: URGENT before NORMAL, by arrival within a class. -/
def addRequest (r : Request) (q : List Request) : List Request :=
  if r.urgent then q.takeWhile (·.urgent) ++ r :: q.dropWhile (·.urgent) else q ++ [r]

/-- How a lookup settled a need (R114). -/
inductive LookupEnd where
  | hit | joinedEntry | joinedRequest | requested | full
  deriving DecidableEq, Repr, Inhabited

/-- Which case of R114 applies to a need, short of the room waiting list. -/
def lookupEnd (n : Need) (s : State) : LookupEnd :=
  if s.cache.any (CacheEntry.validFor n.letter n.frame) then .hit
  else if s.cache.any (CacheEntry.fillingFor n.letter n.frame) then .joinedEntry
  else if s.drq.any (Request.isFor n.letter n.frame) then .joinedRequest
  else if s.drq.length < Config.drqSize then .requested
  else .full

/-- Copy a need from the VALID entry with its key, which moves to the most-recent end (R114 case 1). -/
def hitNeed (n : Need) (s : State) : State :=
  match s.cache.find? (CacheEntry.validFor n.letter n.frame) with
  | none => s
  | some e => copyNeed e.samples { s with cache := cacheRecent e.num e.st s.cache } n

/-- Settle a need by cases 1 to 4 of R114; in case 5 nothing changes. -/
def settleNeed (n : Need) (s : State) : State :=
  match lookupEnd n s with
  | .hit => hitNeed n s
  | .joinedEntry => { s with cache := s.cache.map (CacheEntry.join n) }
  | .joinedRequest => { s with drq := s.drq.map (Request.join n) }
  | .requested =>
    { s with drq := addRequest { letter := n.letter, frame := n.frame
                                 urgent := (s.letter n.letter).urgent, waiters := [n] } s.drq }
  | .full => s

/-- Departures for which a room waiting list is still to be served; a list that is empty at a departure needs none (R115). -/
def dueAfter (k : Nat) (s : State) : Nat := if s.room = [] then 0 else s.roomDue + k

/-- k requests have left the queue, and the room waiting list is to be served for each (R112, R115). -/
def depart (k : Nat) (s : State) : State := { s with roomDue := dueAfter k s }

/-- Look up a need (R114); when the queue is full the need joins the tail of the room waiting list. -/
def lookupNeed (s : State) (n : Need) : State :=
  if lookupEnd n s = .full then { s with room := s.room ++ [n], roomDue := dueAfter 0 s } else settleNeed n s

/-- Look up needs in order. -/
def lookupAll (ns : List Need) (s : State) : State := ns.foldl lookupNeed s

/-- Serve waiters with the samples of their frame, in joining order (R117, R119). -/
def serveWaiters (ws : List Need) (xs : List Int) (s : State) : State := ws.foldl (copyNeed xs) s

/-- The waiters of a cache entry without the needs of transaction entry e. -/
def CacheEntry.dropNeeds (e : Nat) (c : CacheEntry) : CacheEntry :=
  match c.st with
  | .filling l f b sl w => { c with st := .filling l f b sl (w.filter fun n => decide (n.entry ≠ e)) }
  | .stale l f b sl w => { c with st := .stale l f b sl (w.filter fun n => decide (n.entry ≠ e)) }
  | _ => c

/-- Remove the needs of transaction entry e wherever they wait (R122). -/
def dropNeeds (e : Nat) (s : State) : State :=
  { s with cache := s.cache.map (CacheEntry.dropNeeds e)
           drq := s.drq.map fun r => { r with waiters := r.waiters.filter fun n => decide (n.entry ≠ e) }
           room := s.room.filter fun n => decide (n.entry ≠ e) }

/-- A cache entry without waiters. -/
def CacheEntry.dropAll (c : CacheEntry) : CacheEntry :=
  match c.st with
  | .filling l f b sl _ => { c with st := .filling l f b sl [] }
  | .stale l f b sl _ => { c with st := .stale l f b sl [] }
  | _ => c

/-! ### Order of acceptance -/

/-- Insert a numbered entry by arrival rank. -/
def insertByRank (x : Nat × Entry) (l : List (Nat × Entry)) : List (Nat × Entry) :=
  match l with
  | [] => [x]
  | y :: r => if x.2.rank ≤ y.2.rank then x :: y :: r else y :: insertByRank x r

/-- Numbered entries in the order of their acceptance. -/
def sortByRank (l : List (Nat × Entry)) : List (Nat × Entry) :=
  match l with
  | [] => []
  | x :: r => insertByRank x (sortByRank r)

/-! ### Cursor targets (R137, R140) -/

/-- The smaller of two optional frames. -/
def minOpt (a b : Option Nat) : Option Nat :=
  match a, b with
  | some x, some y => some (min x y)
  | some x, none => some x
  | none, y => y

/-- The first cue position above the checked frame. -/
def nextCue (k : Int) (cues : List Cue) : Option Nat :=
  match cues with
  | [] => none
  | c :: r => if k < (c.pos : Int) then minOpt (some c.pos) (nextCue k r) else nextCue k r

/-- The first positive multiple of n above the checked frame; none when n is 0. -/
def nextMultiple (k : Int) (n : Nat) : Option Nat :=
  if n = 0 then none else some (k.toNat / n * n + n)

/-- A cursor with its target recomputed from a cue list (R137); in IDLE the target is absent. -/
def Cursor.retarget (c : Cursor) (cues : List Cue) : Cursor :=
  { c with target :=
      match c.letter with
      | none => none
      | some _ => minOpt (if c.follow then nextCue c.checked cues else none) (nextMultiple c.checked c.interval) }

/-- A cursor attached to letter n recomputes its target from the letter's cue list (R140). -/
def Cursor.follows (n : Nat) (cues : List Cue) (k : Cursor) : Cursor :=
  if k.letter = some n then k.retarget cues else k

/-- Every cursor attached to letter n recomputes its target from the letter's cue list (R140). -/
def retargetAll (n : Nat) (s : State) : State :=
  { s with cursors := Tab.change Cursor.initial (Cursor.follows n (s.letter n).cues) s.cursors }

end Sys2Proof.Machine
end

