-- ==== Sys2Proof/Machine/Placement.lean ====
section
/-! DEFINITION. A channel's finished frames: buffers, dropping (R101, R102), placement (R53 to R60), the hush cap (R98),
settling the head of the finished queue, and finishing a frame (R96). -/

namespace Sys2Proof.Machine

open Sys2Proof

/-! ### Frame buffers (R85) -/

/-- Buffer i of a channel. -/
def Channel.buffer (ch : Channel) (i : Nat) : Buf := if i = 0 then ch.buf0 else ch.buf1

/-- Give buffer i of a channel a state. -/
def Channel.setBuffer (ch : Channel) (i : Nat) (b : Buf) : Channel :=
  if i = 0 then { ch with buf0 := b } else { ch with buf1 := b }

/-- The free space of a buffer (R85). -/
def Buf.space (b : Buf) : Nat :=
  match b with
  | .free => 128
  | .filling xs => 128 - xs.length
  | .finished _ => 0
  | .record _ => 0

/-- The samples of a FILLING buffer; none of any other. -/
def Buf.fill (b : Buf) : List Int :=
  match b with
  | .filling xs => xs
  | _ => []

/-- The samples of a FINISHED buffer. -/
def Buf.samples (b : Buf) : List Int :=
  match b with
  | .finished xs => xs
  | _ => []

/-- The buffer is FREE. -/
def Buf.isFree (b : Buf) : Bool :=
  match b with
  | .free => true
  | _ => false

/-- The buffer is FILLING. -/
def Buf.isFilling (b : Buf) : Bool :=
  match b with
  | .filling _ => true
  | _ => false

/-- The buffer after its frame leaves it: FINISHED becomes FREE (R85). -/
def Buf.release (b : Buf) : Buf :=
  match b with
  | .finished _ => .free
  | .record _ => .free
  | b => b

/-- The free space of a channel (R85). -/
def Channel.freeSpace (ch : Channel) : Nat := ch.buf0.space + ch.buf1.space

/-- A pressed channel has no FREE buffer (R85). -/
def Channel.pressed (ch : Channel) : Bool := !ch.buf0.isFree && !ch.buf1.isFree

/-- The FILLING buffer, if there is one. -/
def Channel.fillBuffer (ch : Channel) : Option Nat :=
  if ch.buf0.isFilling then some 0 else if ch.buf1.isFilling then some 1 else none

/-- The lowest-numbered FREE buffer (log 22). -/
def Channel.freeBuffer (ch : Channel) : Option Nat :=
  if ch.buf0.isFree then some 0 else if ch.buf1.isFree then some 1 else none

/-- The samples of the fill buffer. -/
def Channel.fill (ch : Channel) : List Int := ch.buf0.fill ++ ch.buf1.fill

/-! ### Frames leaving the finished queue -/

/-- A frame whose target falls by 1. -/
def FFrame.lower (f : FFrame) : FFrame := { f with target := f.target - 1 }

/-- A channel after its head frame is placed: the frame leaves the queue and its buffer becomes FREE (R85). -/
def Channel.leaveHead (ch : Channel) (f : FFrame) : Channel :=
  { ch.setBuffer f.buffer (ch.buffer f.buffer).release with queue := ch.queue.tail }

/-- A channel after frame i of its queue is dropped or discarded: the targets behind it and the edit point fall by 1 (R98, R101). -/
def Channel.removeFrame (ch : Channel) (i : Nat) (f : FFrame) : Channel :=
  { ch.setBuffer f.buffer (ch.buffer f.buffer).release with
    queue := ch.queue.take i ++ (ch.queue.drop (i + 1)).map FFrame.lower
    editPoint := ch.editPoint.map (· - 1) }

/-- Drop frame i of channel c's queue (R101), with its notice if it is the first of the run (R102). Whether FRAME_DROPPED, with
the status block that reports the free bins, comes before or after the frame's slot is settled (R48, R77, R171) no rule says:
DESIGN CHOICE, after, and before the frames behind it are settled, unsafe (log 40). -/
def dropFrame (c i : Nat) (r : DropReason) (s : State) : State :=
  let ch := s.channel c
  match ch.queue[i]? with
  | none => s
  | some f =>
    let s1 := s.setChannel c { ch.removeFrame i f with dropMark := true }
    let s2 := setIncomplete f.letter (settleSlot f.place s1)
    if ch.dropMark then s2 else post (frameDropped f.letter c f.target r) s2

/-! ### Placement (R53 to R60) -/

/-- The slot of a placed speech frame is settled: live rises and in flight falls by 1, as one change (R48). -/
def placeSlot (place : Option (Nat × Nat)) (s : State) : State :=
  match place with
  | none => s
  | some p => updateBin p.1 (fun r => { r with live := r.live + 1, inFlight := r.inFlight - 1 }) s

/-- The slot an OVERWRITE releases (R51, R58). -/
def releaseOld (old : Option Nat) (s : State) : State :=
  match old with
  | none => s
  | some b => lowerLive b 1 s

/-- What a placement of a kind at e invalidates of a letter's cache entries (R60). -/
def placeInvalidates (k : PlaceKind) (n e : Nat) (l f : Nat) : Bool :=
  match k with
  | .append => decide (l = n) && decide (f = e)
  | .insert => decide (l = n) && decide (e ≤ f)
  | .overwrite => decide (l = n) && decide (f = e)
  | .unchanged => false

/-- Cursors recompute their targets when the placement moved cues (R140). -/
def placeTargets (k : PlaceKind) (n : Nat) (s : State) : State :=
  match k with
  | .insert => retargetAll n s
  | .append | .overwrite | .unchanged => s

/-- The one change of a placement (R59) of the head frame f of channel c. -/
def commitPlacement (c : Nat) (f : FFrame) (s : State) : State :=
  let l := s.letter f.letter
  let k := placeKind f l
  let s1 := s.setChannel c ((s.channel c).leaveHead f)
  let s2 := { s1.setLetter f.letter (l.place f) with
              freeSegs := s.freeSegs + l.segs.length - (editSegs f l).length }
  let s3 := releaseOld (releasedBin f l) (placeSlot f.place s2)
  placeTargets k f.letter (invalidate (placeInvalidates k f.letter f.target) s3)

/-- Placement of the head frame of channel c (R53, R54). A frame whose letter is no longer attached to the
channel is neither placed nor dropped. -/
def placeHead (c : Nat) (f : FFrame) (s : State) : State :=
  let l := s.letter f.letter
  if l.state ≠ .recording ∨ l.channel ≠ some c then s.setChannel c ((s.channel c).leaveHead f)
  else
    match placeLimit f l s.freeSegs with
    | some r => dropFrame c 0 r s
    | none => commitPlacement c f s

/-- Settle a READY head frame: the hush cap first, then placement (R98, R100). -/
def settleHead (c : Nat) (f : FFrame) (s : State) : State :=
  if capDiscards f (s.letter f.letter) then s.setChannel c ((s.channel c).removeFrame 0 f)
  else placeHead c f s

/-- Settle READY frames at the head of channel c's queue, at most n of them. -/
def settle (n c : Nat) (s : State) : State :=
  match n with
  | 0 => s
  | k + 1 =>
    match (s.channel c).queue with
    | [] => s
    | f :: _ => if f.stage = .ready then settle k c (settleHead c f s) else s

/-- Settle the finished queue of channel c, which holds at most 2 frames (R86). -/
def settleQueue (c : Nat) (s : State) : State := settle 2 c s

/-! ### Finishing a frame (R95, R96) -/

/-- The hush decision: whether the frame is SPEECH, and the hang counter afterwards (R96). -/
def hushDecision (t h hang a : Nat) : Bool × Nat :=
  if t = 0 then (true, hang)
  else if t ≤ a then (true, h)
  else if 0 < hang then (true, hang - 1)
  else (false, 0)

/-- A channel after the frame in buffer b finishes with samples xs (R96). -/
def Channel.finish (ch : Channel) (b : Nat) (xs : List Int) : Channel :=
  let d := hushDecision ch.threshold ch.hang ch.hangCount (meanAmplitude xs)
  let e := ch.editPoint.getD 0
  let f : FFrame :=
    { letter := ch.letter.getD 0, target := e, speech := d.1, mode := ch.mode
      cap := if d.1 then none else some ch.cap, buffer := b
      stage := if d.1 then .awaitingEncode else .ready, place := none }
  { ch.setBuffer b (.finished xs) with
    queue := ch.queue ++ [f], editPoint := some (e + 1), hangCount := d.2 }

/-- Finish the frame in buffer b of channel c and settle the queue (R96, R98). -/
def finishFrame (c b : Nat) (xs : List Int) (s : State) : State :=
  settleQueue c (s.setChannel c ((s.channel c).finish b xs))

/-- A partial fill completed with copies of its last sample (R95). -/
def padSamples (xs : List Int) : List Int := xs ++ List.replicate (128 - xs.length) (xs.getLastD 0)

/-- End the current run of channel c: pad and finish a FILLING buffer, then ATTACHED without a run (R90, R95). -/
def endRun (c : Nat) (s : State) : State :=
  let ch := s.channel c
  let s1 :=
    match ch.fillBuffer with
    | some b => finishFrame c b (padSamples ch.fill) s
    | none => s
  s1.setChannel c { s1.channel c with runKind := none, nextIdx := none, state := .attached }

/-- End the run of channel c, if one is current (R90, R104). -/
def endCurrentRun (c : Nat) (s : State) : State := if (s.channel c).runKind.isSome then endRun c s else s

end Sys2Proof.Machine
end

