-- ==== Sys2Proof/Machine/WriteOps.lean ====
section
/-! DEFINITION. Writes to a letter: the run, size and space tests (R89), beginning a run (R91), taking a write (R92, R169,
R170), the waiting list (R88) and hand-over (R87, R168). -/

namespace Sys2Proof.Machine

open Sys2Proof

/-- The run kind of a write: RAW for the RAW view (R91). -/
def Entry.runKind (e : Entry) : RunKind := if e.view = 3 then .raw else .pcm

/-- The samples of a PCM write (R87). -/
def Entry.samples (e : Entry) : List Int := if e.view = 0 then samples16 e.buf else samples8 e.buf

/-- The count n of a write: samples of a PCM write, 1 for a record. -/
def Entry.count (e : Entry) : Nat := if e.view = 3 then 1 else if e.view = 0 then e.len / 2 else e.len

/-- The run test: the write begins a run (R89 step 1, R169). -/
def beginsRun (ch : Channel) (e : Entry) : Bool :=
  decide (ch.runKind ≠ some e.runKind) || decide (ch.nextIdx ≠ some e.firstUnit)

/-- The size test fails: a PCM write that can never be taken (R89 step 2). -/
def tooLarge (ch : Channel) (e : Entry) : Bool :=
  decide (e.runKind = .pcm) && decide (256 - ch.fill.length < e.count)

/-- The space test (R89 step 3, R169). -/
def fits (ch : Channel) (e : Entry) : Bool :=
  if e.runKind = .pcm then decide (e.count ≤ ch.freeSpace) else ch.freeBuffer.isSome

/-- Begin a run of channel c with write e (R91, R169). -/
def beginRun (c : Nat) (e : Entry) (s : State) : State :=
  let ch := s.channel c
  let len := (s.letter (ch.letter.getD 0)).length
  let start := if e.runKind = .pcm then e.firstUnit / 128 else e.firstUnit
  s.setChannel c
    { ch with editPoint := some (min start len), runKind := some e.runKind, nextIdx := some e.firstUnit
              hangCount := 0, carried := if e.runKind = .pcm then 16 else ch.carried
              dropMark := false, state := .run }

/-- Enter samples into channel c's buffers, finishing each frame that becomes full (R92); at most n buffers are touched. -/
def takeSamples (n c : Nat) (xs : List Int) (s : State) : State :=
  match n with
  | 0 => s
  | k + 1 =>
    if xs = [] then s
    else
      let ch := s.channel c
      match ch.fillBuffer <|> ch.freeBuffer with
      | none => s
      | some b =>
        let ys := ch.fill ++ xs.take (128 - ch.fill.length)
        if ys.length < 128 then s.setChannel c (ch.setBuffer b (.filling ys))
        else takeSamples k c (xs.drop (128 - ch.fill.length)) (finishFrame c b ys s)

/-- The next host index of channel c rises by n (R92). -/
def advanceIdx (c n : Nat) (s : State) : State :=
  s.setChannel c { s.channel c with nextIdx := (s.channel c).nextIdx.map (· + n) }

/-- A channel after a record joins its finished queue (R169). -/
def Channel.pushRecord (ch : Channel) (b : Nat) (bytes : List Byte) (speech : Bool) (stage : Stage)
    (place : Option (Nat × Nat)) : Channel :=
  let e := ch.editPoint.getD 0
  { ch.setBuffer b (.record bytes) with
    queue := ch.queue ++
      [{ letter := ch.letter.getD 0, target := e, speech := speech, mode := ch.mode, cap := none,
         buffer := b, stage := stage, place := place }]
    editPoint := some (e + 1) }

/-- Take the record of a RAW write into channel c (R169, R170). -/
def takeRecord (c : Nat) (bytes : List Byte) (s : State) : State :=
  let ch := s.channel c
  let b := ch.freeBuffer.getD 0
  let n := ch.letter.getD 0
  if recordKind bytes = kindHush then
    settleQueue c (s.setChannel c (ch.pushRecord b bytes false .ready none))
  else
    let h := handOut c s
    match h.1 with
    | none => dropFrame c ch.queue.length .bins (s.setChannel c (ch.pushRecord b bytes true .awaitingEncode none))
    | some p =>
      let r := rewriteRecord n bytes
      let a : Access :=
        { kind := .importWrite c, letter := n, frame := ch.editPoint.getD 0, bin := p.1, slot := p.2 }
      let s1 := h.2.setChannel c (ch.pushRecord b r true .encoding (some p))
      let s2 : State := { s1 with raw := s1.raw ++ [a] }
      s2.emitWrite (s2.slotAddr p.1 p.2) r

/-- Remove entry n from channel c's waiting list. -/
def leaveList (c n : Nat) (s : State) : State :=
  s.setChannel c { s.channel c with waiting := (s.channel c).waiting.filter fun m => decide (m ≠ n) }

/-- Take write e of entry n into channel c: its samples or record enter the buffers and it is answered OK (R92, R169). -/
def takeWrite (c n : Nat) (e : Entry) (s : State) : State :=
  let s1 := leaveList c n s
  let s2 :=
    if e.runKind = .pcm then advanceIdx c e.count (takeSamples 4 c e.samples s1)
    else advanceIdx c 1 (takeRecord c (bytesAt e.buf 0 80) s1)
  okEntry n s2

/-- The write at the head of channel c's waiting list. -/
def headWrite (c : Nat) (s : State) : Option (Nat × Entry) :=
  match (s.channel c).waiting with
  | [] => none
  | n :: _ => (s.entry n).map fun e => (n, e)

/-- A run of channel c begins: write e of entry n is taken as its first (R91). -/
def takeFirst (c n : Nat) (e : Entry) (s : State) : State := takeWrite c n e (beginRun c e s)

/-- A write that became the head of channel c's list is considered (R88, R89): a run-starting write ends the
current run and, when the finished queue is then empty, begins its own run at once (R84, R90); a write that can never be
taken is refused; and with each write that leaves, the next is considered. Taking a write that continues the run, and
beginning a run once the queue has drained, are steps of their own (WRITE_TAKEN, RUN_BEGIN, log 7). -/
def considerHead (fuel c : Nat) (s : State) : State :=
  match fuel with
  | 0 => s
  | k + 1 =>
    match headWrite c s with
    | none => s
    | some (n, e) =>
      if beginsRun (s.channel c) e then
        let s1 := endCurrentRun c s
        if (s1.channel c).queue = [] then considerHead k c (takeFirst c n e s1) else s1
      else if tooLarge (s.channel c) e then considerHead k c (refuseEntry n .misaligned (some c) (leaveList c n s))
      else s

/-- Consider the head of channel c's list. -/
def consider (c : Nat) (s : State) : State := considerHead ((s.channel c).waiting.length + 1) c s

/-- Put entry n in a state. -/
def setEntryState (n : Nat) (st : EntryState) (s : State) : State :=
  match s.entry n with
  | none => s
  | some e => s.setEntry n { e with st := st }

/-- A write joins channel c's waiting list; as head of an empty list it is considered, and taken if it can be, at
hand-over (R88 to R92). -/
def joinList (c n : Nat) (e : Entry) (s : State) : State :=
  let ch := s.channel c
  let s1 := s.setChannel c { ch with waiting := ch.waiting ++ [n] }
  if ch.waiting ≠ [] then s1
  else if beginsRun ch e then
    let s2 := endCurrentRun c s1
    if (s2.channel c).queue = [] then takeFirst c n e s2
    else setEntryState n .waitingRun s2
  else if tooLarge ch e then refuseEntry n .misaligned (some c) (leaveList c n s1)
  else if fits ch e then takeWrite c n e s1
  else s1

/-- A PCM write of the PCM16 view with an odd offset or length (R87). -/
def oddWrite (e : Entry) : Bool :=
  decide (e.view = 0) && (decide (e.offset % 2 = 1) || decide (e.len % 2 = 1))

/-- A RAW write that is not one whole unit (R168). -/
def partialRecord (e : Entry) : Bool := decide (e.offset % 128 ≠ 0) || decide (e.len ≠ 128)

/-- Answer a RAW write whose record fails its test (R168). -/
def rejectImport (c n : Nat) (e : Entry) (cause : Cause) (s : State) : State :=
  post (importRejected e c cause) (s.setEntry n e.refuse)

/-- Hand-over of a write to channel c (R87, R168). -/
def handWrite (c n : Nat) (e : Entry) (s : State) : State :=
  if (s.channel c).state = .flushing then refuseEntry n .channelFlushing (some c) s
  else if e.view = 3 then
    if partialRecord e then refuseEntry n .misaligned (some c) s
    else
      match testImport (bytesAt e.buf 0 80) with
      | some cause => rejectImport c n e cause s
      | none => joinList c n e s
  else if oddWrite e then refuseEntry n .misaligned (some c) s
  else joinList c n e s

end Sys2Proof.Machine
end

