-- ==== Sys2Proof/Machine/ReadOps.lean ====
section
/-! DEFINITION. Reads: the takes of PCM reads (R119), cursor reads (R133 to R138), TIME reads (R157 to R162) and RAW reads
(R164, R165), the completion of slot reads, and hand-over of a served transaction (R6, R33). -/

namespace Sys2Proof.Machine

open Sys2Proof

/-- A set of numbers as an ascending list, with one number added. -/
def addSorted (x : Nat) (l : List Nat) : List Nat :=
  match l with
  | [] => [x]
  | y :: r => if x < y then x :: y :: r else if x = y then y :: r else y :: addSorted x r

/-- The distinct numbers of a list in ascending order. -/
def distinct (l : List Nat) : List Nat := l.foldr addSorted []

/-- Put the read of entry n in WAITING_FRAMES with its needs and look each up; with no need it is READY at
once (R119, R134). -/
def startFrames (n letter : Nat) (frames : List Nat) (e : Entry) (s : State) : State :=
  if frames = [] then s.setEntry n e.ok
  else lookupAll (frames.map fun f => { entry := n, letter := letter, frame := f })
    (s.setEntry n { e with st := .waitingFrames, letter := some letter, needs := frames })

/-- A PCM read of a letter is taken (R119). -/
def takePcmRead (n : Nat) (e : Entry) (s : State) : State :=
  startFrames n e.num (pcmFrames e.view e.offset e.len) { e with buf := zeros e.len } s

/-! ### Cursor reads (R130 to R138) -/

/-- The letter position Q(o) of an output at or above the base (R131). -/
def Cursor.position (k : Cursor) (o : Nat) : Nat :=
  if o < k.base + k.tempDur then k.origin + (o - k.base) * k.tempRate
  else k.origin + k.tempDur * k.tempRate + (o - k.base - k.tempDur) * k.rate

/-- The class and position of output o in a letter of n frames (R133). -/
def Cursor.outPos (k : Cursor) (n o : Nat) : OutPos :=
  if o < k.base then .beforeBase
  else
    let q := k.position o
    if n * 128 ≤ q / 4096 then .beyondEnd else .at (q / 4096) (q % 4096) (decide (q / 4096 + 1 = n * 128))

/-- The frames an output uses (R134). -/
def OutPos.frames (p : OutPos) : List Nat :=
  match p with
  | .beforeBase => []
  | .beyondEnd => []
  | .at i f last => if f = 0 ∨ last then [i / 128] else [i / 128, (i + 1) / 128]

/-- The frame F of the last output in the letter (R138). -/
def lastFrame (plan : List OutPos) : Option Nat :=
  match plan with
  | [] => none
  | p :: r =>
    match lastFrame r, p with
    | some f, _ => some f
    | none, .at i _ _ => some (i / 128)
    | none, _ => none

/-- The index in a plan of the first output beyond the end (R136). -/
def firstBeyond (plan : List OutPos) : Option Nat := plan.findIdx? fun p => decide (p = .beyondEnd)

/-- The target notice of a read that reaches frame f, for target g (R138 step 1). -/
def targetNotice (c letter g f : Nat) (follow : Bool) (cues : List Cue) : Notice :=
  match if follow then cues.filter fun q => decide (q.pos = g) else [] with
  | [] => progress letter c g f
  | q :: r => cueReached letter c g f q (r.length + 1)

/-- The notices of a cursor read's take, the target notice first (R136, R138). -/
def takeNotices (c letter : Nat) (k : Cursor) (l : Letter) (first : Nat) (plan : List OutPos) : List Notice :=
  let target :=
    match lastFrame plan, k.target with
    | some f, some g => if g ≤ f then [targetNotice c letter g f k.follow l.cues] else []
    | _, _ => []
  let ended :=
    match k.endMark, firstBeyond plan with
    | false, some i => [endReached letter c (first + i) l.length]
    | _, _ => []
  target ++ ended

/-- The cursor after the take of a read (R135, R136, R138). -/
def Cursor.afterTake (k : Cursor) (l : Letter) (last : Nat) (plan : List OutPos) : Cursor :=
  let lr := match k.lastRead with
    | none => last
    | some x => max x last
  let k1 : Cursor := { k with lastRead := some lr, endMark := k.endMark || (firstBeyond plan).isSome }
  match lastFrame plan with
  | none => k1
  | some f => { k1 with checked := max k.checked f }.retarget l.cues

/-- Post notices in order. -/
def postAll (ns : List Notice) (s : State) : State := ns.foldl (fun t n => post n t) s

/-- A cursor read is handed to its cursor (R133). -/
def takeCursorRead (n : Nat) (e : Entry) (s : State) : State :=
  let k := s.cursor e.num
  match k.letter with
  | none => refuseEntry n .cursorIdle none s
  | some letter =>
    let l := s.letter letter
    let plan := (upTo e.firstUnit e.lastUnit).map (k.outPos l.length)
    let s1 := postAll (takeNotices e.num letter k l e.firstUnit plan)
      (s.setCursor e.num (k.afterTake l e.lastUnit plan))
    startFrames n letter (distinct (plan.flatMap OutPos.frames)) { e with buf := zeros e.len, plan := plan } s1

/-! ### TIME reads (R157 to R162) -/

/-- Two BCD digits of a value 0-99 (R158). -/
def bcd (v : Nat) : Byte := BitVec.ofNat 8 (v / 10 * 16 + v % 10)

/-- Byte k of the time code of frame f, k = 0 hundredths, 1 seconds, 2 minutes (R158). -/
def timeCode (f k : Nat) : Byte :=
  let ms := 16 * f
  match k with
  | 0 => bcd (ms / 10 % 100)
  | 1 => bcd (ms / 1000 % 60)
  | _ => bcd (ms / 60000)

/-- The flag byte (R159). -/
def flagByte (hush cue : Bool) (level : Nat) : Byte := BitVec.ofNat 8 (one hush + 2 * one cue + 16 * level)

/-- The level of a mean amplitude field (R159). -/
def levelOf (a : Nat) : Nat := min 15 (a / 2048)

/-- A cue of the letter lies at a frame. -/
def cueAt (cues : List Cue) (f : Nat) : Bool := cues.any fun c => decide (c.pos = f)

/-- Byte k of frame f's time-code word; the flag byte of a speech frame is written later (R157). -/
def timeByte (l : Letter) (f k : Nat) : Byte :=
  if l.length ≤ f then 0xFF
  else if k < 3 then timeCode f k
  else
    match l.lookup f with
    | .speech _ _ => 0
    | _ => flagByte true (cueAt l.cues f) 0

/-- A frame as a slot read of a letter: its bin and slot when it is a speech frame. -/
def slotOf (l : Letter) (f : Nat) : Option (Nat × Nat) :=
  match l.lookup f with
  | .speech b sl => some (b, sl)
  | _ => none

/-- The accesses a taken read issues for frames of a letter (R157, R164). In which order one read issues them on the memory
port no rule says: DESIGN CHOICE, ascending frame order, unsafe (log 38). -/
def accessesFor (kind : AccessKind) (letter : Nat) (l : Letter) (frames : List Nat) : List Access :=
  frames.filterMap fun f =>
    (slotOf l f).map fun p => { kind := kind, letter := letter, frame := f, bin := p.1, slot := p.2 }

/-- Issue slot reads and hold each distinct bin once (R49). -/
def issueReads (as : List Access) (s : State) : State :=
  let s1 := as.foldl (fun t a => t.emitRead (t.slotAddr a.bin a.slot) 80) { s with raw := s.raw ++ as }
  (distinct (as.map (·.bin))).foldl (fun t b => holdBin b t) s1

/-- The read of entry n goes on with its slot reads, or is READY when it needs none (R157, R164). -/
def startSlots (n : Nat) (e : Entry) (as : List Access) (s : State) : State :=
  if as = [] then s.setEntry n e.ok
  else issueReads as (s.setEntry n { e with st := .waitingMemory })

/-- The frames whose flag byte a TIME read covers (R157, R162). -/
def flagFrames (off len : Nat) : List Nat :=
  (upTo (off / 4) ((off + len - 1) / 4)).filter fun f => decide (off ≤ 4 * f + 3) && decide (4 * f + 3 < off + len)

/-- A TIME read is taken (R157). -/
def takeTimeRead (n : Nat) (e : Entry) (s : State) : State :=
  let l := s.letter e.num
  let frames := flagFrames e.offset e.len
  let buf := (List.range e.len).map fun j => timeByte l ((e.offset + j) / 4) ((e.offset + j) % 4)
  startSlots n { e with buf := buf, letter := some e.num, cued := frames.filter (cueAt l.cues) }
    (accessesFor (.timeRead n) e.num l frames) s

/-! ### RAW reads (R164, R165) -/

/-- Byte k of frame f's unit of a letter; the record bytes of a speech frame are written later (R164). -/
def rawByte (n : Nat) (l : Letter) (f k : Nat) : Byte :=
  if 80 ≤ k then 0
  else
    match l.lookup f with
    | .hush => (hushRecord n).getD k 0
    | _ => 0

/-- The frames whose record bytes a RAW read covers (R164). -/
def recordFrames (off len : Nat) : List Nat :=
  (upTo (off / 128) ((off + len - 1) / 128)).filter fun f =>
    decide (off < 128 * f + 80) && decide (128 * f < off + len)

/-- A RAW read is taken (R164). -/
def takeRawRead (n : Nat) (e : Entry) (s : State) : State :=
  let l := s.letter e.num
  let buf := (List.range e.len).map fun j => rawByte e.num l ((e.offset + j) / 128) ((e.offset + j) % 128)
  startSlots n { e with buf := buf, letter := some e.num }
    (accessesFor (.exportRead n) e.num l (recordFrames e.offset e.len)) s

/-! ### Answers of slot reads (R160, R166) -/

/-- The access of this kind for this frame. -/
def Access.isFor (kind : AccessKind) (f : Nat) (a : Access) : Bool := decide (a.kind = kind) && decide (a.frame = f)

/-- An answered access leaves the raw path, and its bin hold is released with the read's last access in that bin (R49, R163). -/
def retireAccess (a : Access) (s : State) : State :=
  let left := s.raw.filter fun x => !x.isFor a.kind a.frame
  let s1 : State := { s with raw := left }
  if left.any fun x => decide (x.kind = a.kind) && decide (x.bin = a.bin) then s1 else releaseBin a.bin s1

/-- Complete the read of entry n once no access of this kind is left: freed if a link reset reserved it (R19), REFUSED
while RESETTING (R17), else OK. That the ACCESS_REFUSED of a read whose last answer failed follows that answer's MEMORY_FAULT no
rule says: DESIGN CHOICE, unsafe (log 42). -/
def finishRead (kind : AccessKind) (n : Nat) (s : State) : State :=
  if s.raw.any fun x => decide (x.kind = kind) then s
  else
    match s.entry n with
    | none => s
    | some e =>
      if e.reserved then s.freeEntry n
      else if s.part = .resetting then refuseEntry n .resetting none s
      else okEntry n s

/-- Rewrite the buffer of entry n: byte j becomes `f off j old`. -/
def mapBuffer (n : Nat) (f : Nat → Nat → Byte → Byte) (s : State) : State :=
  match s.entry n with
  | none => s
  | some e => s.setEntry n { e with buf := (List.range e.len).map fun j => f e.offset j (e.buf.getD j 0) }

/-! ### Hand-over (R6, R33, Table 1-4) -/

/-- A served read of a letter view goes to its owner (Table 1-4). -/
def handRead (n : Nat) (e : Entry) (s : State) : State :=
  if e.view = 2 then takeTimeRead n e s
  else if e.view = 3 then takeRawRead n e s
  else takePcmRead n e s

/-- A served transaction of a letter view is judged by the letter's state and handed over (R33, Table 2-5). -/
def handLetter (n : Nat) (e : Entry) (s : State) : State :=
  let l := s.letter e.num
  match l.state with
  | .free => refuseEntry n .letterFree none s
  | .discarding => refuseEntry n .letterFree none s
  | .recording => if e.write then handWrite (l.channel.getD 0) n e s else handRead n e s
  | .ready => if e.write then refuseEntry n .notRecording none s else handRead n e s
  | .filed => if e.write then refuseEntry n .notRecording none s else handRead n e s

/-- Hand a served transaction to its owner (R6). -/
def handOver (n : Nat) (e : Entry) (s : State) : State :=
  if e.view = 4 then takeCursorRead n e s else handLetter n e s

end Sys2Proof.Machine
end

