-- ==== Sys2Proof/Machine/RingOps.lean ====
section
/-! DEFINITION. Taking a command from the ring (R174, R175): the fetch, the judgement by part state, the answer, and the
advance of the consumer index with its status block write. -/

namespace Sys2Proof.Machine

open Sys2Proof

/-- The outcome of a command. -/
abbrev Out := Host.Outcome State Fault Refusal

/-- CMON fetches the next entry while the consumer index differs from the producer copy (R174). -/
def fetchNext (s : State) : State :=
  if s.fetching = false ∧ s.cfgPending = false ∧ s.consumer ≠ s.prodCopy.toNat % 64 then
    { s.emitRead (s.cp + 0x800 + 32 * s.consumer) 32 with fetching := true }
  else s

/-- After a command's immediate effect: the consumer index advances, the status block is written, and the
next entry is fetched (R174, R180). -/
def retire (s : State) : State :=
  fetchNext
    { s with consumer := (s.consumer + 1) % 64, fetching := false, cfgPending := false }.writeStatus

/-- Record the result and slot of the command taken (R175). -/
def setLast (r : Result) (s : State) : State := { s with lastResult := r, lastSlot := s.consumer }

/-- Answer the command taken: its result is recorded and COMMAND_DONE posted (R22, R175). -/
def answer (letter unit : Option Nat) (r : Result) (detail : List Byte) (s : State) : State :=
  post (commandDone s.consumer letter unit r detail) (setLast r s)

/-- The judgement of a known command by the part state (R175). -/
def judge (isConfigure : Bool) (p : PartState) : Option Result :=
  match p with
  | .resetting => some .busy
  | .unconfigured => if isConfigure then none else some .notConfigured
  | .running => if isConfigure then some .wrongState else none

/-- Take a command other than CONFIGURE, with the subject fields of its record; without an outstanding
fetch no command arrives (log 1, log 9). -/
def ringCommand (letter unit : Option Nat) (body : State → State) (s : State) : State :=
  if s.fetching then
    retire (match judge false s.part with
      | some r => answer letter unit r [] s
      | none => body s)
  else s

/-- The first two steps of R22 for a command that names a letter. -/
def judgeLetter (n : Nat) (s : State) : Option Result :=
  if Config.letters ≤ n then some .outOfRange else if s.transitional n then some .busy else none

end Sys2Proof.Machine
end

