-- ==== Sys2Proof/Machine/Channels.lean ====
section
/-! DEFINITION. The recording channels: CHANNEL_SET, WRITE_TAKEN and RUN_BEGIN (Chapter 5). -/

namespace Sys2Proof.Machine

open Sys2Proof

/-- The mode of a CHANNEL_SET option byte: 0 OVERWRITE, 1 INSERT (Table 10-5). -/
def modeOf (o : Byte) : Option Mode :=
  match o.toNat with
  | 0 => some .overwrite
  | 1 => some .insert
  | _ => none

/-- Store a channel's parameters (R103). -/
def Channel.params (ch : Channel) (m : Mode) (t h c : Nat) : Channel :=
  { ch with mode := m, threshold := t, hang := h, cap := c }

/-- The effect of CHANNEL_SET (R103). A change of mode in RUN ends the run first, under the old parameters, and the head of
the waiting list is considered again under the new ones (log 37). Where COMMAND_DONE stands among the notices of that step no
rule says: DESIGN CHOICE, after the padded frame's and the reconsidered writes', unsafe (log 41). -/
def setParams (c : Nat) (o : Byte) (v1 v2 v3 : BitVec 32) (s : State) : State :=
  if Config.units ≤ c then answer none (some c) .outOfRange [] s
  else
    match modeOf o with
    | none => answer none (some c) .outOfRange [] s
    | some m =>
      let ch := s.channel c
      let ends := ch.state = .run ∧ ch.mode ≠ m
      let s0 := setLast .done s
      let s1 := if ends then endRun c s0 else s0
      let s2 := s1.setChannel c
        ((s1.channel c).params m (clampField v1 0 32767) (clampField v2 0 63) (clampField v3 0 4096))
      answer none (some c) .done [] (if ends then consider c s2 else s2)

/-- CHANNEL_SET. -/
def execChannelSet (channel : BitVec 16) (opt : Byte) (v1 v2 v3 : BitVec 32) (s : State) : Out :=
  .next (ringCommand none (some channel.toNat) (setParams channel.toNat opt v1 v2 v3) s)

/-- WRITE_TAKEN (R89, R92): the head write continues the run and there is room for it. -/
def execWriteTaken (c : Fin 32) (s : State) : Out :=
  match headWrite c s with
  | none => .next s
  | some (n, e) =>
    let ch := s.channel c
    if beginsRun ch e = false ∧ tooLarge ch e = false ∧ fits ch e then .next (consider c (takeWrite c n e s))
    else .next s

/-- RUN_BEGIN (R90, R91): the head write begins a run, no run is current and the finished queue is empty. -/
def execRunBegin (c : Fin 32) (s : State) : Out :=
  match headWrite c s with
  | none => .next s
  | some (n, e) =>
    let ch := s.channel c
    if beginsRun ch e ∧ ch.runKind = none ∧ ch.queue = [] then
      .next (consider c (takeFirst c n e s))
    else .next s

end Sys2Proof.Machine
end

