-- ==== Sys2Proof/Machine/Control.lean ====
section
/-! DEFINITION. The control monitor: BAD_COMMAND, CONFIGURE and its read answer, POOL_RESET and its end (Chapter 10). -/

namespace Sys2Proof.Machine

open Sys2Proof

/-- BAD_COMMAND (R174, R175): an unknown code or a failed fetch; it names no subject (log 10). -/
def execBadCommand (code : Option Byte) (s : State) : Out :=
  if Instr.wf (.badCommand code) then
    .next (if s.fetching then retire (answer none none .badCommand [] s) else s)
  else .refused (.illFormed "BAD_COMMAND")

/-- CONFIGURE (R175, R176): in UNCONFIGURED it issues the read of the configuration block, and CMON waits for the answer. -/
def execConfigure (s : State) : Out :=
  .next (if s.fetching then
      match judge true s.part with
      | some r => retire (answer none none r [] s)
      | none => { s.emitRead s.cp 64 with fetching := false, cfgPending := true }
    else s)

/-- The configuration an answer carries, if it passes every check of R176. -/
def checkedBlock (code : MemCode) (data : List Byte) (cp : Nat) : Option Cfg :=
  match code with
  | .other _ => none
  | .okay => if (Cfg.ofBlock data).ok cp then some (Cfg.ofBlock data) else none

/-- The one change of a CONFIGURE that passes (R1, R44, R176). -/
def applyConfig (c : Cfg) (s : State) : State :=
  { s with cfg := some c, binCount := c.bins, bins := [], freeBins := List.range c.bins
           prod := s.consCopy.toNat % c.ringSize, overflow := false, lost := 0, loud := []
           part := .running }

/-- CONFIGURATION_READ_ANSWER (R176). -/
def execConfigurationReadAnswer (code : MemCode) (data : List Byte) (s : State) : Out :=
  if answerWf 64 code data then
    .next (if s.cfgPending then
        retire (match checkedBlock code data s.cp with
          | none => answer none none .wrongState [] s
          | some c => answer none none .done [] (applyConfig c s))
      else s)
  else .refused (.illFormed "CONFIGURATION_READ_ANSWER")

/-! ### POOL_RESET (R177) -/

/-- A cache entry at entry into RESETTING (R123): the entry of a job in flight is STALE without waiters. -/
def CacheEntry.clear (e : CacheEntry) : CacheEntry :=
  match e.st with
  | .filling l f b sl _ => { e with st := .stale l f b sl [] }
  | .stale l f b sl _ => { e with st := .stale l f b sl [] }
  | .empty => e
  | .valid _ _ _ => { e with st := .empty }

/-- Entry n of the cleared cache. -/
def clearedEntry (c : List CacheEntry) (n : Nat) : CacheEntry :=
  match c.find? fun e => decide (e.num = n) with
  | some e => e.clear
  | none => { num := n, st := .empty }

/-- The one change in which every block clears itself (R40, R62, R108, R123, R147, R156). -/
def clearBlocks (keep : Bool) (s : State) : State :=
  { s with part := .resetting, poolRun := some { keep := keep, slot := s.consumer }
           letters := [], longs := [], freeSegs := Config.segEntries, freeCues := Config.cueRecords
           bins := [], freeBins := List.range s.binCount, channels := [], cursors := []
           cache := (List.range 32).map (clearedEntry s.cache), drq := [], room := [], roomDue := 0
           pressedPtr := 31, unpressedPtr := 31 }

/-- The held entries that entry into RESETTING answers, in the order of their acceptance (R17, R177). -/
def heldEntries (s : State) : List (Nat × Entry) :=
  (sortByRank s.entries).filter fun p =>
    decide (p.2.st = .waitingSpace) || decide (p.2.st = .waitingRun) || decide (p.2.st = .waitingFrames)

/-- Answer entries REFUSED, reason RESETTING, in order (R17). -/
def refuseHeld (ps : List (Nat × Entry)) (s : State) : State :=
  ps.foldl (fun t p => refuseEntry p.1 .resetting none t) s

/-- Answer the abandoned long commands BUSY, in the order taken (R40). -/
def abandonLongs (ls : List LongCmd) (s : State) : State :=
  ls.foldl (fun t c => post (commandDone c.slot (some c.letter) none .busy []) t) s

/-- The effect of POOL_RESET at its take (R177): the blocks clear, then the notices are posted. -/
def enterResetting (keep : Bool) (s : State) : State :=
  abandonLongs s.longs (refuseHeld (heldEntries s) (setLast .done (clearBlocks keep s)))

/-- POOL_RESET (R177). -/
def execPoolReset (opt : Byte) (s : State) : Out :=
  .next (ringCommand none none (enterResetting (optBit opt)) s)

/-- The pool reset can end: both engines FREE and no raw-path access (R177). -/
def resetQuiet (s : State) : Bool :=
  decide (s.part = .resetting) && decide (s.engine0 = .free) && decide (s.engine1 = .free) && decide (s.raw = [])

/-- The part becomes UNCONFIGURED at the end of a pool reset without keep (R1, R62, R177). -/
def dropConfig (s : State) : State :=
  { s with part := .unconfigured, cfg := none, binCount := 0, bins := [], freeBins := [] }

/-- The end of a pool reset (R177). -/
def endReset (r : PoolRun) (s : State) : State :=
  let n := commandDone r.slot none none .done []
  if r.keep then post n { s with part := .running, poolRun := none }
  else (dropConfig (post n { s with poolRun := none })).writeStatus

/-- POOL_RESET_END (R177). -/
def execPoolResetEnd (s : State) : Out :=
  match s.poolRun with
  | none => .next s
  | some r => if resetQuiet s then .next (endReset r s) else .next s

end Sys2Proof.Machine
end

