-- ==== Sys2Proof/Machine/Cues.lean ====
section
/-! DEFINITION. The cue commands (Chapter 8). -/

namespace Sys2Proof.Machine

open Sys2Proof

/-- The code of an outcome (Table 10-8). -/
def outcomeCode (o : Config.CueOutcome) : Nat :=
  match o with
  | .added => 1
  | .present => 2
  | .removed => 3
  | .absent => 4

/-- The detail of a cue command that reaches step 4 of R150: outcome, kind and position (Table 10-8). -/
def cueDetail (outcome : Config.CueOutcome) (k : CueKind) (p : Nat) : List Byte :=
  leBytes 1 (outcomeCode outcome) ++ leBytes 1 k.code ++ zeros 2 ++ leBytes 4 p

/-- The position of a CUE_ADD (R151): EXPLICIT clamped to the length, or the smaller of edit point and length. -/
def cuePosition (atEdit : Bool) (l : Letter) (p : Nat) (s : State) : Nat :=
  if atEdit then
    match (s.channel (l.channel.getD 0)).editPoint with
    | some e => min e l.length
    | none => l.length
  else min p l.length

/-- CUE_ADD of kind k at its fixed position p (R152); NO_ROOM carries a free one of the four outcomes (log 13). -/
def addCueAt (n : Nat) (k : CueKind) (tag : BitVec 16) (p : Nat) (s : State) : State :=
  let l := s.letter n
  let ans := fun r o t => answer (some n) none r (cueDetail o k p) t
  if l.cues.any fun c => c.isAt p k then ans .done .present s
  else if s.freeCues = 0 ∨ Config.cuesPerLetter ≤ l.cues.length then
    (ans .noRoom (Config.noRoomOutcome s.freeIdx) s).bumpFree
  else
    let s1 := s.setLetter n { l with cues := insertCue { pos := p, kind := k, tag := tag } l.cues }
    ans .done .added (retargetAll n { s1 with freeCues := s1.freeCues - 1 })

/-- The effect of CUE_ADD (R150 to R152). -/
def addCue (n : Nat) (o : Byte) (mode tag : BitVec 16) (v1 : BitVec 32) (s : State) : State :=
  let l := s.letter n
  let ans := fun r t => answer (some n) none r [] t
  match CueKind.ofCode o.toNat with
  | none => ans .outOfRange s
  | some k =>
    if 2 ≤ mode.toNat then ans .outOfRange s
    else
      match judgeLetter n s with
      | some r => ans r s
      | none =>
        if l.state = .free ∨ (mode.toNat = 1 ∧ l.state ≠ .recording) then ans .wrongState s
        else addCueAt n k tag (cuePosition (mode.toNat = 1) l v1.toNat s) s

/-- CUE_ADD. -/
def execCueAdd (letter : BitVec 16) (opt : Byte) (mode tag : BitVec 16) (v1 : BitVec 32) (s : State) : Out :=
  .next (ringCommand (some letter.toNat) none (addCue letter.toNat opt mode tag v1) s)

/-- CUE_REMOVE at step 4 (R153). -/
def removeCueAt (n : Nat) (k : CueKind) (p : Nat) (s : State) : State :=
  let l := s.letter n
  let ans := fun o t => answer (some n) none .done (cueDetail o k p) t
  if l.cues.any fun c => c.isAt p k then
    let s1 := s.setLetter n { l with cues := removeCue p k l.cues }
    ans .removed (retargetAll n { s1 with freeCues := s1.freeCues + 1 })
  else ans .absent s

/-- The effect of CUE_REMOVE (R150, R153). -/
def dropCue (n : Nat) (o : Byte) (v1 : BitVec 32) (s : State) : State :=
  let ans := fun r t => answer (some n) none r [] t
  match CueKind.ofCode o.toNat with
  | none => ans .outOfRange s
  | some k =>
    match judgeLetter n s with
    | some r => ans r s
    | none => if (s.letter n).state = .free then ans .wrongState s else removeCueAt n k v1.toNat s

/-- CUE_REMOVE. -/
def execCueRemove (letter : BitVec 16) (opt : Byte) (v1 : BitVec 32) (s : State) : Out :=
  .next (ringCommand (some letter.toNat) none (dropCue letter.toNat opt v1) s)

end Sys2Proof.Machine
end

