-- ==== Sys2Proof/Machine/Cursors.lean ====
section
/-! DEFINITION. The cursor commands (Chapter 7). -/

namespace Sys2Proof.Machine

open Sys2Proof

/-- The detail of a CURSOR_ATTACH, STEP or RATE that succeeds: origin in samples and letter length (R127). -/
def originDetail (origin len : Nat) : List Byte := zeros 4 ++ leBytes 4 (origin / 4096) ++ leBytes 4 len

/-- The cursor count of a cursor's letter falls by 1 (R128, R129). -/
def leaveLetter (k : Cursor) (s : State) : State :=
  match k.letter with
  | none => s
  | some m => s.setLetter m { s.letter m with cursorCount := (s.letter m).cursorCount - 1 }

/-- The cursor count of a letter rises by 1 (R128). -/
def joinLetter (n : Nat) (s : State) : State :=
  s.setLetter n { s.letter n with cursorCount := (s.letter n).cursorCount + 1 }

/-- A cursor after CURSOR_ATTACH to a letter (R128). -/
def Cursor.attach (k : Cursor) (n : Nat) (l : Letter) (p rate : Nat) : Cursor :=
  ({ letter := some n, origin := min p l.length * 524288, base := 0, rate := rate, tempRate := rate
     tempDur := 0, lastRead := none, endMark := false, checked := (min p l.length : Nat) - 1
     target := none, interval := k.interval, follow := k.follow } : Cursor).retarget l.cues

/-- The effect of CURSOR_ATTACH (R127, R128). -/
def attachCursor (c n : Nat) (v1 v2 : BitVec 32) (s : State) : State :=
  let ans := fun r d t => answer (some n) (some c) r d t
  if Config.units ≤ c then ans .outOfRange [] s
  else
    match judgeLetter n s with
    | some r => ans r [] s
    | none =>
      if (s.letter n).state = .free then ans .wrongState [] s
      else
        let k := (s.cursor c).attach n (s.letter n) v1.toNat (clampField v2 2048 6144)
        ans .done (originDetail k.origin (s.letter n).length)
          ((joinLetter n (leaveLetter (s.cursor c) s)).setCursor c k)

/-- CURSOR_ATTACH. -/
def execCursorAttach (cursor letter : BitVec 16) (v1 v2 : BitVec 32) (s : State) : Out :=
  .next (ringCommand (some letter.toNat) (some cursor.toNat) (attachCursor cursor.toNat letter.toNat v1 v2) s)

/-- A cursor after CURSOR_DETACH (R129). -/
def Cursor.detached (k : Cursor) : Cursor :=
  { Cursor.initial with interval := k.interval, follow := k.follow }

/-- The effect of CURSOR_DETACH (R129). -/
def detachCursor (c : Nat) (s : State) : State :=
  if Config.units ≤ c then answer none (some c) .outOfRange [] s
  else
    let k := s.cursor c
    match k.letter with
    | none => answer none (some c) .done [] s
    | some _ => answer none (some c) .done [] ((leaveLetter k s).setCursor c k.detached)

/-- CURSOR_DETACH. -/
def execCursorDetach (cursor : BitVec 16) (s : State) : Out :=
  .next (ringCommand none (some cursor.toNat) (detachCursor cursor.toNat) s)

/-- The output index from which a rebase resumes (R141). -/
def Cursor.resumeIndex (k : Cursor) : Nat :=
  match k.lastRead with
  | none => k.base
  | some lr => max k.base (lr + 1)

/-- The resume position Q(u) (R141). -/
def Cursor.resume (k : Cursor) : Nat := k.position k.resumeIndex

/-- A cursor after CURSOR_STEP by d frames at base b (R142). -/
def Cursor.step (k : Cursor) (l : Letter) (d : Int) (b : Nat) : Cursor :=
  let o := (clampInt ((k.resume : Int) + d * 524288) 0 ((l.length * 524288 : Nat) : Int)).toNat
  { k with origin := o, base := b, tempDur := 0, lastRead := none, endMark := false
           checked := ((o / 524288 : Nat) : Int) - 1 }.retarget l.cues

/-- The effect of CURSOR_STEP (R127, R142). -/
def stepCursor (c : Nat) (v1 v2 : BitVec 32) (s : State) : State :=
  let ans := fun r d t => answer none (some c) r d t
  if Config.units ≤ c ∨ Config.maxIndex < v2.toNat then ans .outOfRange [] s
  else
    match (s.cursor c).letter with
    | none => ans .wrongState [] s
    | some n =>
      let k := (s.cursor c).step (s.letter n) v1.toInt v2.toNat
      ans .done (originDetail k.origin (s.letter n).length) (s.setCursor c k)

/-- CURSOR_STEP. -/
def execCursorStep (cursor : BitVec 16) (v1 v2 : BitVec 32) (s : State) : Out :=
  .next (ringCommand none (some cursor.toNat) (stepCursor cursor.toNat v1 v2) s)

/-- A cursor after CURSOR_RATE (R143). -/
def Cursor.rebase (k : Cursor) (l : Letter) (rate temp dur b : Nat) : Cursor :=
  { k with origin := min k.resume (l.length * 524288), base := b, rate := rate, tempRate := temp
           tempDur := dur, lastRead := none, endMark := false }.retarget l.cues

/-- The effect of CURSOR_RATE (R127, R143). -/
def rateCursor (c : Nat) (v1 v2 v3 v4 : BitVec 32) (s : State) : State :=
  let ans := fun r d t => answer none (some c) r d t
  if Config.units ≤ c ∨ Config.maxIndex < v3.toNat ∨ Config.maxIndex < v4.toNat then ans .outOfRange [] s
  else
    match (s.cursor c).letter with
    | none => ans .wrongState [] s
    | some n =>
      let k := (s.cursor c).rebase (s.letter n) (clampField v1 2048 6144) (clampField v2 2048 6144)
        v3.toNat v4.toNat
      ans .done (originDetail k.origin (s.letter n).length) (s.setCursor c k)

/-- CURSOR_RATE. -/
def execCursorRate (cursor : BitVec 16) (v1 v2 v3 v4 : BitVec 32) (s : State) : Out :=
  .next (ringCommand none (some cursor.toNat) (rateCursor cursor.toNat v1 v2 v3 v4) s)

/-- The cue list a cursor's target comes from: its letter's, if it has one. -/
def cursorCues (k : Cursor) (s : State) : List Cue :=
  match k.letter with
  | none => []
  | some n => (s.letter n).cues

/-- The effect of CURSOR_TARGET (R127, R139). -/
def targetCursor (c : Nat) (follow : Bool) (v1 : BitVec 32) (s : State) : State :=
  if Config.units ≤ c ∨ 65535 < v1.toNat then answer none (some c) .outOfRange [] s
  else
    let k := s.cursor c
    answer none (some c) .done []
      (s.setCursor c ({ k with interval := v1.toNat, follow := follow }.retarget (cursorCues k s)))

/-- CURSOR_TARGET. -/
def execCursorTarget (cursor : BitVec 16) (opt : Byte) (v1 : BitVec 32) (s : State) : Out :=
  .next (ringCommand none (some cursor.toNat) (targetCursor cursor.toNat (optBit opt) v1) s)

end Sys2Proof.Machine
end

