-- ==== Sys2Proof/Machine/Engines.lean ====
section
/-! DEFINITION. The engine arbiter, the codec engines and the decode cache's service (Chapters 4 and 6). -/

namespace Sys2Proof.Machine

open Sys2Proof

/-! ### The arbiter's choice (R109, R110) -/

/-- Channel c asks for an encode job: its queue head is a SPEECH frame in AWAITING_ENCODE (R97). -/
def Channel.asks (ch : Channel) : Bool :=
  match ch.queue with
  | [] => false
  | f :: _ => f.speech && decide (f.stage = .awaitingEncode)

/-- The first channel at or after pointer + 1, wrapping from 31 to 0, of which `p` holds (R110). -/
def searchFrom (ptr : Nat) (p : Nat → Bool) : Option Nat :=
  ((List.range 32).map fun i => (ptr + 1 + i) % 32).find? p

/-- A claim the arbiter grants. -/
inductive Claim where
  | encode (channel : Nat) (pressed : Bool)
  | decode
  deriving DecidableEq, Repr, Inhabited

/-- The arbiter's choice among the eligible claims, by class (R110). -/
def arbiterChoice (s : State) : Option Claim :=
  match searchFrom s.pressedPtr fun c => (s.channel c).asks && (s.channel c).pressed with
  | some c => some (.encode c true)
  | none =>
    if s.drq ≠ [] ∧ (claimEntry s.cache).isSome then some .decode
    else (searchFrom s.unpressedPtr fun c => (s.channel c).asks && !(s.channel c).pressed).map (Claim.encode · false)

/-- A grant can be made to engine e: the part is RUNNING and the engine FREE (R110). -/
def canGrant (e : Fin 2) (s : State) : Bool := decide (s.part = .running) && decide (s.engine e = .free)

/-! ### Encode jobs (R75 to R77, R99, R100) -/

/-- A grant moves the pointer of its class to the channel granted (R109). -/
def movePointer (c : Nat) (pressed : Bool) (s : State) : State :=
  if pressed then { s with pressedPtr := c } else { s with unpressedPtr := c }

/-- A channel whose head frame takes a slot and enters ENCODING (R99). -/
def Channel.startEncode (ch : Channel) (p : Nat × Nat) : Channel :=
  match ch.queue with
  | [] => ch
  | f :: r => { ch with queue := { f with stage := .encoding, place := some p } :: r }

/-- The job of a head frame with its inputs, fixed at the grant (R75). -/
def Channel.encodeJob (ch : Channel) (c : Nat) (p : Nat × Nat) : Engine :=
  match ch.queue with
  | [] => .free
  | f :: _ => .coding c f.letter f.buffer (ch.buffer f.buffer).samples ch.carried p.1 p.2

/-- Grant engine e the head frame of channel c: a slot is handed out, or the frame is dropped for BINS (R75, R99). -/
def grantEncode (e : Fin 2) (c : Nat) (pressed : Bool) (s : State) : State :=
  let h := handOut c (movePointer c pressed s)
  match h.1 with
  | none => settleQueue c (dropFrame c 0 .bins h.2)
  | some p =>
    let ch := h.2.channel c
    (h.2.setChannel c (ch.startEncode p)).setEngine e (ch.encodeJob c p)

/-- ENCODE_GRANT (R75, R110). -/
def execEncodeGrant (e : Fin 2) (s : State) : Out :=
  if canGrant e s then
    match arbiterChoice s with
    | some (.encode c pressed) => .next (grantEncode e c pressed s)
    | _ => .next s
  else .next s

/-- CODING_COMPLETE (R76): the record is coded and its slot write issued. -/
def execCodingComplete (e : Fin 2) (s : State) : Out :=
  match s.engine e with
  | .coding c letter buffer xs kin b sl =>
    .next ((s.setEngine e (.writing c letter buffer kin b sl (encodeFrame xs kin).2)).emitWrite
      (s.slotAddr b sl) (encodeRecord letter xs kin))
  | _ => .next s

/-- A channel whose encode job hands back its buffer and outgoing step index (R77, R100). -/
def Channel.endEncode (ch : Channel) (buffer kout : Nat) : Channel :=
  { ch.setBuffer buffer (ch.buffer buffer).release with carried := kout }

/-- A channel whose head frame enters READY (R100). -/
def Channel.readyHead (ch : Channel) : Channel :=
  match ch.queue with
  | [] => ch
  | f :: r => { ch with queue := { f with stage := .ready } :: r }

/-- The completion of an encode job of channel c (R77, R100). -/
def endEncode (c buffer kout : Nat) (code : MemCode) (s : State) : State :=
  let ch := (s.channel c).endEncode buffer kout
  match code with
  | .okay => settleQueue c (s.setChannel c ch.readyHead)
  | .other _ => settleQueue c (dropFrame c 0 .memory (s.setChannel c ch))

/-- ENCODE_JOB_COMPLETE (R77, R81): during a pool reset the engine becomes FREE and nothing else changes. -/
def execEncodeJobComplete (e : Fin 2) (code : MemCode) (s : State) : Out :=
  match s.engine e with
  | .writing c _ buffer _ _ _ kout =>
    let s1 := s.setEngine e .free
    .next (if s.part = .resetting then s1 else endEncode c buffer kout code s1)
  | _ => .next s

/-! ### Decode jobs (R78, R79, R116, R117) -/

/-- Grant engine e the decode request r, which has left the queue, with cache entry num (R78, R116). -/
def grantDecode (e : Fin 2) (r : Request) (num : Nat) (s : State) : State :=
  match (s.letter r.letter).lookup r.frame with
  | .speech b sl =>
    let s1 : State := { s with cache := cacheRecent num (.filling r.letter r.frame b sl r.waiters) s.cache }
    (s1.setEngine e (.reading r.letter r.frame b sl num)).emitRead (s.slotAddr b sl) 80
  | .hush | .beyond =>
    serveWaiters r.waiters silence
      { s with cache := cacheRecent num (.valid r.letter r.frame silence) s.cache }

/-- DECODE_GRANT (R110, R116). -/
def execDecodeGrant (e : Fin 2) (s : State) : Out :=
  if canGrant e s ∧ arbiterChoice s = some .decode then
    match s.drq, claimEntry s.cache with
    | r :: q, some num => .next (grantDecode e r num (depart 1 { s with drq := q }))
    | _, _ => .next s
  else .next s

/-- DECODE_READ_ANSWER (R79): the record is tested and decoded, or the answer failed. -/
def execDecodeReadAnswer (e : Fin 2) (code : MemCode) (data : List Byte) (s : State) : Out :=
  if answerWf 80 code data then
    match s.engine e with
    | .reading l f b sl num => .next (s.setEngine e (.decoding l f b sl num (decodeResult code data)))
    | _ => .next s
  else .refused (.illFormed "DECODE_READ_ANSWER")

/-- The state of cache entry num. -/
def cacheStateOf (num : Nat) (s : State) : CacheState :=
  match s.cache.find? fun c => decide (c.num = num) with
  | some c => c.st
  | none => .empty

/-- A decode job completes into a FILLING entry (R117). -/
def completeFilling (l f b sl num : Nat) (ws : List Need) (r : DecResult) (s : State) : State :=
  match r with
  | .good xs => serveWaiters ws xs { s with cache := cacheRecent num (.valid l f xs) s.cache }
  | .damaged c =>
    post (frameDamaged l f b sl c)
      (setDamaged l (serveWaiters ws silence
        { s with cache := cacheRecent num (.valid l f silence) s.cache }))
  | .memory =>
    post (memoryFault l f b sl)
      (serveWaiters ws silence { s with cache := cacheEmpty num s.cache })

/-- A decode job completes into a STALE entry: the result is discarded and the waiters looked up again (R117). The entry moves to
the least-recent end (R113) in a pool reset too, where R124 lets a CONFIGURE find the power-on order: DESIGN CHOICE, safe (log 43). -/
def completeStale (l f b sl num : Nat) (ws : List Need) (r : DecResult) (s : State) : State :=
  let s1 := lookupAll ws { s with cache := cacheEmpty num s.cache }
  match r with
  | .memory => post (memoryFault l f b sl) s1
  | .good _ => s1
  | .damaged _ => s1

/-- DECODE_JOB_COMPLETE (R117). -/
def execDecodeJobComplete (e : Fin 2) (s : State) : Out :=
  match s.engine e with
  | .decoding l f b sl num r =>
    let s1 := s.setEngine e .free
    .next (match cacheStateOf num s with
      | .filling _ _ _ _ ws => completeFilling l f b sl num ws r s1
      | .stale _ _ _ _ ws => completeStale l f b sl num ws r s1
      | .empty => s1
      | .valid _ _ _ => s1)
  | _ => .next s

/-! ### The room waiting list (R115) -/

/-- Serve the room waiting list for one departed request: needs are looked up from its head until one makes a request
or finds the queue full and goes back to the head (R115, log 20). -/
def serveRoom (ns : List Need) (s : State) : State :=
  match ns with
  | [] => { s with room := [] }
  | n :: r =>
    match lookupEnd n s with
    | .full => { s with room := n :: r }
    | .requested => { settleNeed n s with room := r }
    | .hit | .joinedEntry | .joinedRequest => serveRoom r (settleNeed n s)

/-- ROOM_WAITING_LOOKUP (R115): a request has left the queue, and the list is served for it. -/
def execRoomWaitingLookup (s : State) : Out :=
  if s.room ≠ [] ∧ 0 < s.roomDue then .next (serveRoom s.room { s with roomDue := s.roomDue - 1 }) else .next s

end Sys2Proof.Machine
end

