-- ==== Sys2Proof/Machine/Letters.lean ====
section
/-! DEFINITION. The letter directory: the letter commands, close completion and the discard walk (Chapter 2). -/

namespace Sys2Proof.Machine

open Sys2Proof

/-! ### LETTER_OPEN (R23 to R25) -/

/-- The record of a letter opened from FREE (R24). -/
def Letter.opened1 (l : Letter) (c : Nat) (tag : BitVec 16) (urgent : Bool) (now : Stamp) : Letter :=
  { l with state := .recording, channel := some c, tag := tag, urgent := urgent, opened := now }

/-- The record of a letter reopened from READY (R25). -/
def Letter.reopened (l : Letter) (c : Nat) (urgent : Bool) : Letter :=
  { l with state := .recording, channel := some c, urgent := urgent }

/-- Attach channel c to letter n: ATTACHED, edit point absent (R24, R83). -/
def attachChannel (c n : Nat) (s : State) : State :=
  s.setChannel c { s.channel c with state := .attached, letter := some n, editPoint := none }

/-- The effect of LETTER_OPEN (R22, R23). -/
def openLetter (n c : Nat) (tag : BitVec 16) (urgent : Bool) (s : State) : State :=
  let ans := fun r t => answer (some n) (some c) r [] t
  let l := s.letter n
  if Config.units ≤ c then ans .outOfRange s
  else
    match judgeLetter n s with
    | some r => ans r s
    | none =>
      match l.state with
      | .free =>
        if (s.channel c).state = .idle then
          ans .done (attachChannel c n (s.setLetter n (l.opened1 c tag urgent s.tsc)))
        else ans .inUse s
      | .ready =>
        if (s.channel c).state = .idle then
          ans .done (attachChannel c n (s.setLetter n (l.reopened c urgent)))
        else ans .inUse s
      | .recording => ans .wrongState s
      | .filed => ans .wrongState s
      | .discarding => ans .busy s

/-- LETTER_OPEN. -/
def execLetterOpen (letter channel tag : BitVec 16) (opt : Byte) (s : State) : Out :=
  .next (ringCommand (some letter.toNat) (some channel.toNat)
    (openLetter letter.toNat channel.toNat tag (optBit opt)) s)

/-! ### LETTER_CLOSE and its completion (R26, R27, R104, R105) -/

/-- Refuse the held writes of channel c in list order (R104). -/
def refuseWrites (c : Nat) (ns : List Nat) (s : State) : State :=
  ns.foldl (fun t n => refuseEntry n .channelFlushing (some c) t) s

/-- Channel c at the take of LETTER_CLOSE: held writes refused, the run padded and ended, FLUSHING (R104). -/
def flushChannel (c : Nat) (s : State) : State :=
  let ch := s.channel c
  let s1 := refuseWrites c ch.waiting (s.setChannel c { ch with waiting := [] })
  let s2 := endCurrentRun c s1
  s2.setChannel c { s2.channel c with state := .flushing }

/-- A long command joins those in flight (R22). -/
def addLong (discard : Bool) (n : Nat) (s : State) : State :=
  { s with longs := s.longs ++ [{ discard := discard, letter := n, slot := s.consumer }] }

/-- A channel that completes its close (R105). -/
def Channel.closed (ch : Channel) : Channel :=
  { ch with state := .idle, letter := none, editPoint := none, runKind := none, nextIdx := none
            hangCount := 0, dropMark := false }

/-- Post COMMAND_DONE for a long command that ends (R22). -/
def finishLong (lc : Option LongCmd) (s : State) : State :=
  match lc with
  | none => s
  | some c =>
    post (commandDone c.slot (some c.letter) none .done [])
      { s with longs := s.longs.filter fun x => decide (x ≠ c) }

/-- The close in flight of letter n. -/
def closeOf (n : Nat) (s : State) : Option LongCmd := s.longs.find? fun c => !c.discard && decide (c.letter = n)

/-- Complete the close of channel c, attached to letter n (R27, R105). -/
def completeClose (c n : Nat) (s : State) : State :=
  let l := s.letter n
  let s1 := s.setChannel c (s.channel c).closed
  let s2 := s1.setLetter n { l with state := .ready, channel := none, closed := some s.tsc }
  finishLong (closeOf n s) s2

/-- The close of letter n begins on its channel c, and completes at once when the finished queue is then empty (R26, R105). -/
def startClose (c n : Nat) (s : State) : State :=
  let s1 := flushChannel c (addLong false n s)
  if (s1.channel c).queue = [] then completeClose c n s1 else s1

/-- The effect of LETTER_CLOSE (R22, R26). -/
def closeLetter (n : Nat) (s : State) : State :=
  let l := s.letter n
  match judgeLetter n s with
  | some r => answer (some n) none r [] s
  | none =>
    if l.state = .recording then startClose (l.channel.getD 0) n (setLast .done s)
    else answer (some n) none .wrongState [] s

/-- LETTER_CLOSE. -/
def execLetterClose (letter : BitVec 16) (s : State) : Out :=
  .next (ringCommand (some letter.toNat) none (closeLetter letter.toNat) s)

/-- CLOSE_COMPLETION: channel c is FLUSHING with an empty finished queue (R27, R105). -/
def execCloseCompletion (c : Fin 32) (s : State) : Out :=
  match (s.channel c).letter with
  | none => .next s
  | some n =>
    if (s.channel c).state = .flushing ∧ (s.channel c).queue = [] then .next (completeClose c n s) else .next s

/-! ### LETTER_FILE, LETTER_HOLD, LETTER_QUERY (R28 to R30) -/

/-- The effect of LETTER_FILE (R28). -/
def fileLetter (n : Nat) (s : State) : State :=
  match judgeLetter n s with
  | some r => answer (some n) none r [] s
  | none =>
    if (s.letter n).state = .ready then
      answer (some n) none .done [] (s.setLetter n { s.letter n with state := .filed })
    else answer (some n) none .wrongState [] s

/-- LETTER_FILE. -/
def execLetterFile (letter : BitVec 16) (s : State) : Out :=
  .next (ringCommand (some letter.toNat) none (fileLetter letter.toNat) s)

/-- The effect of LETTER_HOLD (R29). -/
def holdLetter (n : Nat) (hold : Bool) (s : State) : State :=
  match judgeLetter n s with
  | some r => answer (some n) none r [] s
  | none =>
    if (s.letter n).state = .free then answer (some n) none .wrongState [] s
    else answer (some n) none .done [] (s.setLetter n { s.letter n with hold := hold })

/-- LETTER_HOLD. -/
def execLetterHold (letter : BitVec 16) (opt : Byte) (s : State) : Out :=
  .next (ringCommand (some letter.toNat) none (holdLetter letter.toNat (optBit opt)) s)

/-- The effect of LETTER_QUERY (R30); a report without a closed time uses one free value (log 12). -/
def queryLetter (n : Nat) (s : State) : State :=
  match judgeLetter n s with
  | some r => answer (some n) none r [] s
  | none =>
    let l := s.letter n
    let s1 := post (letterReport s.consumer n l (Config.absentClosedTime s.freeIdx)) (setLast .done s)
    if l.closed.isSome then s1 else s1.bumpFree

/-- LETTER_QUERY. -/
def execLetterQuery (letter : BitVec 16) (s : State) : Out :=
  .next (ringCommand (some letter.toNat) none (queryLetter letter.toNat) s)

/-! ### LETTER_DISCARD and the discard walk (R34 to R38) -/

/-- The end of a letter's walk: its cues return, its record takes the free values, COMMAND_DONE is posted (R38). -/
def endWalk (lc : LongCmd) (s : State) : State :=
  let s1 := { s with freeCues := s.freeCues + (s.letter lc.letter).cues.length }
  finishLong (some lc) (s1.setLetter lc.letter Letter.free)

/-- Walks of letters whose segment and cue lists are both empty go at once to their end (R36); at most n of them. -/
def walkEmpty (n : Nat) (s : State) : State :=
  match n with
  | 0 => s
  | k + 1 =>
    match s.discardQueue with
    | [] => s
    | lc :: _ =>
      if (s.letter lc.letter).segs = [] ∧ (s.letter lc.letter).cues = [] then walkEmpty k (endWalk lc s) else s

/-- The walks that follow the end of one. -/
def nextWalks (s : State) : State := walkEmpty s.longs.length s

/-- The bin of a returned segment loses its frames (R37). -/
def returnBin (g : Seg) (s : State) : State :=
  match g with
  | .speech b _ n => lowerLive b n s
  | .hush _ => s

/-- Return the first segment of a letter, leaving the rest (R37). -/
def returnSegment (n : Nat) (g : Seg) (rest : List Seg) (s : State) : State :=
  let s1 := returnBin g s
  { s1.setLetter n { s1.letter n with segs := rest } with freeSegs := s1.freeSegs + 1 }

/-- DISCARD_WALK_STEP (R37, R38): one segment of the head letter is returned; with its last segment the walk
ends (log 27). -/
def walkStep (s : State) : State :=
  match s.discardQueue with
  | [] => s
  | lc :: _ =>
    match (s.letter lc.letter).segs with
    | [] => nextWalks (endWalk lc s)
    | g :: r =>
      let s1 := returnSegment lc.letter g r s
      if r = [] then nextWalks (endWalk lc s1) else s1

/-- DISCARD_WALK_STEP. -/
def execDiscardWalkStep (s : State) : Out := .next (walkStep s)

/-- The reads held in WAITING_FRAMES on letter n, in the order of their acceptance (R34, log 18). -/
def heldReads (n : Nat) (s : State) : List (Nat × Entry) :=
  (sortByRank s.entries).filter fun p => decide (p.2.st = .waitingFrames) && decide (p.2.letter = some n)

/-- Answer the held reads of a discarded letter (R34, R122). -/
def refuseReads (ps : List (Nat × Entry)) (s : State) : State :=
  ps.foldl (fun t p => refuseEntry p.1 .letterFree none (dropNeeds p.1 t)) s

/-- Every request of letter n leaves the queue (R35, R112). -/
def dropRequests (n : Nat) (s : State) : State :=
  let left := s.drq.filter fun r => decide (r.letter ≠ n)
  depart (s.drq.length - left.length) { s with drq := left }

/-- The effects of a LETTER_DISCARD that is taken (R35). -/
def startDiscard (n : Nat) (s : State) : State :=
  let s1 := s.setLetter n { s.letter n with state := .discarding }
  let s2 := refuseReads (heldReads n s) s1
  let s3 := invalidate (fun l _ => decide (l = n)) s2
  let s4 := dropRequests n s3
  let s5 := addLong true n s4
  if s.discardQueue = [] then nextWalks s5 else s5

/-- The effect of LETTER_DISCARD (R22, R35). -/
def discardLetter (n : Nat) (s : State) : State :=
  let l := s.letter n
  match judgeLetter n s with
  | some r => answer (some n) none r [] s
  | none =>
    if l.state = .ready ∨ l.state = .filed then
      if l.hold ∨ 0 < l.cursorCount then answer (some n) none .inUse [] s
      else startDiscard n (setLast .done s)
    else answer (some n) none .wrongState [] s

/-- LETTER_DISCARD. -/
def execLetterDiscard (letter : BitVec 16) (s : State) : Out :=
  .next (ringCommand (some letter.toNat) none (discardLetter letter.toNat) s)

end Sys2Proof.Machine
end

