-- ==== Sys2Proof/Machine/Link.lean ====
section
/-! DEFINITION. The pins and the link port: resets, acceptance and classification of transactions, memory responses,
responses taken, hold expiry (Chapter 1). -/

namespace Sys2Proof.Machine

open Sys2Proof

/-- POWER_ON_RESET (R18): every block at its power-on values. The link-reset input keeps its level. -/
def execPowerOnReset (s : State) : Out :=
  .next { State.reset with pending := s.pending, linkResetPin := s.linkResetPin }

/-- RESET_RELEASE (R173, R181): the straps are sampled and the timestamp counter starts from 0. -/
def execResetRelease (cpsel : BitVec 10) (s : State) : Out :=
  if s.resetPin then .next { s with resetPin := false, cpsel := cpsel, tsc := 0 } else .next s

/-- A buffer at a link reset: a fill buffer is discarded without padding (R107). -/
def Buf.dropFill (b : Buf) : Buf :=
  match b with
  | .filling _ => .free
  | b => b

/-- A channel at a link reset (R107). -/
def Channel.linkReset (ch : Channel) : Channel :=
  if ch.state = .run then
    { ch with buf0 := ch.buf0.dropFill, buf1 := ch.buf1.dropFill, runKind := none, nextIdx := none
              state := .attached, waiting := [] }
  else { ch with waiting := [] }

/-- An entry at a link reset: freed, or taken out of the link's ordering and reserved (R19). -/
def Entry.linkReset (e : Entry) : Option Entry :=
  match e.st with
  | .forwarded => some { e with reserved := true }
  | .waitingMemory => some { e with reserved := true }
  | .ready => none
  | .waitingSpace => none
  | .waitingRun => none
  | .waitingFrames => none

/-- The table at a link reset (R19). -/
def linkResetEntries (t : List (Nat × Entry)) : List (Nat × Entry) :=
  t.filterMap fun p => p.2.linkReset.map fun e => (p.1, e)

/-- LINK_RESET (R19, R107, R122). -/
def execLinkReset (s : State) : Out :=
  if s.linkResetPin then .next s
  else
    .next { s with
      linkResetPin := true
      entries := linkResetEntries s.entries
      channels := Tab.change Channel.initial Channel.linkReset s.channels
      cache := s.cache.map CacheEntry.dropAll
      drq := s.drq.map fun r => { r with waiters := [] }
      room := []
      roomDue := 0 }

/-- LINK_RESET_RELEASE (R19). -/
def execLinkResetRelease (s : State) : Out := .next { s with linkResetPin := false }

/-! ### Classification (R5) -/

/-- What the aperture decoder decides (R5). -/
inductive Verdict where
  | pass
  | unmapped
  | refuse (reason : Reason) (subject : Subject)
  | serve (subject : Subject)
  deriving DecidableEq, Repr, Inhabited

/-- View and number of a span. -/
def spanSubject (sp : Nat) : Subject := { view := spanView sp, num := spanNum sp }

/-- The tests of Table 1-3, in order. -/
def classify (cfg : Option Cfg) (part : PartState) (t : Txn) : Verdict :=
  let a := spanOf t.addr.toNat
  let b := spanOf (lastAddr t.addr.toNat t.len)
  let v := spanView a
  let sub := spanSubject (if claimed cfg a then a else b)
  if !claimed cfg a && !claimed cfg b then .pass
  else if claimed cfg a && (decide (5 ≤ v) || (decide (v = 4) && decide (Config.units ≤ spanNum a))) then .unmapped
  else if a ≠ b then .refuse .crossesSpan sub
  else if part = .resetting then .refuse .resetting sub
  else if t.write && (decide (v = 2) || decide (v = 4)) then .refuse .readOnlyView sub
  else if t.write && t.strobes.contains false then .refuse .misaligned sub
  else .serve sub

/-- The entry made for a transaction (Table 1-5). -/
def newEntry (t : Txn) (s : State) : Entry :=
  { id := t.id, write := t.write, addr := t.addr, len := t.len, strobes := t.strobes
    buf := if t.write then t.data else zeros t.len, rank := s.nextRank, outcome := .served
    subject := none, st := .waitingSpace, holdStart := s.tsc, response := none, letter := none
    needs := [], plan := [], copied := [], cued := [], reserved := false }

/-- Accept a transaction into free entry n and classify it (R5 to R8, R12). -/
def acceptTxn (n : Nat) (t : Txn) (s : State) : State :=
  let e := newEntry t s
  let s1 : State := { s with nextRank := s.nextRank + 1 }
  match classify s.cfg s.part t with
  | .pass =>
    (s1.setEntry n { e with outcome := .passThrough, st := .forwarded }).emit
      { entry := some n, write := t.write, addr := t.addr, len := t.len, strobes := t.strobes, data := t.data }
  | .unmapped =>
    s1.setEntry n { e with outcome := .unmapped, st := .ready, response := some .unmapped
                           buf := if t.write then [] else zeros t.len }
  | .refuse r sub => refuseEntry n r none (s1.setEntry n { e with subject := some sub })
  | .serve sub =>
    let e1 := { e with subject := some sub }
    handOver n e1 (s1.setEntry n e1)

/-- The link port can accept a transaction into entry n (R8, R18, R19). -/
def canAccept (n : Nat) (s : State) : Bool := !s.resetPin && !s.linkResetPin && (s.entry n).isNone

/-- TRANSACTION_ACCEPT (R8). -/
def execTransactionAccept (n : Fin 32) (t : Txn) (s : State) : Out :=
  if t.wf then (if canAccept n s then .next (acceptTxn n t s) else .next s)
  else .refused (.illFormed "TRANSACTION_ACCEPT")

/-! ### Answers to forwarded transactions (R12, R173) -/

/-- The byte a write puts at an address, if it covers the address with its strobe set. -/
def Entry.writtenByte (e : Entry) (a : Nat) : Option Byte :=
  let k := (a + 2 ^ 48 - e.addr.toNat) % 2 ^ 48
  if e.write && decide (k < e.len) && e.strobes.getD k false then some (e.buf.getD k 0) else none

/-- A watched copy after an OKAY-answered write (R173). -/
def watchedCopy (e : Entry) (word : Nat) (copy : BitVec 32) : BitVec 32 :=
  BitVec.ofNat 32 (leNat ((List.range 4).map fun j =>
    (e.writtenByte (word + j)).getD (BitVec.ofNat 8 (copy.toNat / 256 ^ j))))

/-- A write covers a byte of a word with its strobe set (R173). -/
def Entry.covers (e : Entry) (word : Nat) : Bool := (List.range 4).any fun j => (e.writtenByte (word + j)).isSome

/-- The copies after an OKAY-answered write, and the fetch they may begin (R173, R174). -/
def watchWrite (e : Entry) (s : State) : State :=
  fetchNext { s with prodCopy := watchedCopy e (s.cp + 0x40) s.prodCopy
                     consCopy := watchedCopy e (s.cp + 0x44) s.consCopy }

/-- The memory port answers the forwarded transaction of entry n (R12, R19, R173). -/
def answerForwarded (n : Nat) (e : Entry) (code : MemCode) (data : List Byte) (s : State) : State :=
  let s1 :=
    if e.reserved then s.freeEntry n
    else s.setEntry n { e with st := .ready, response := some (.memory code), buf := if e.write then [] else data }
  if e.write && decide (code = .okay) then watchWrite e s1 else s1

/-- MEMORY_RESPONSE (R12). A read's answer carries as many bytes as its length. -/
def execMemoryResponse (n : Fin 32) (code : MemCode) (data : List Byte) (s : State) : Out :=
  match s.entry n with
  | none => .next s
  | some e =>
    if e.st = .forwarded ∧ (e.write ∨ data.length = e.len) then .next (answerForwarded n e code data s)
    else .next s

/-- COMMAND_PRODUCER_INDEX_WRITE (R173, R174): the OKAY answer to a forwarded write of word 040h. -/
def execCommandProducerIndexWrite (n : Fin 32) (s : State) : Out :=
  match s.entry n with
  | none => .next s
  | some e =>
    if e.st = .forwarded ∧ e.covers (s.cp + 0x40) then .next (answerForwarded n e .okay [] s) else .next s

/-- NOTICE_CONSUMER_INDEX_WRITE (R173, R179): the OKAY answer to a forwarded write of word 044h. -/
def execNoticeConsumerIndexWrite (n : Fin 32) (s : State) : Out :=
  match s.entry n with
  | none => .next s
  | some e =>
    if e.st = .forwarded ∧ e.covers (s.cp + 0x44) then .next (answerForwarded n e .okay [] s) else .next s

/-! ### Responses (R14) -/

/-- An entry is in the link's ordering with this link ID and a lower rank. -/
def Entry.older (e x : Entry) : Bool := decide (x.id = e.id) && decide (x.rank < e.rank) && !x.reserved

/-- The response of an entry may be returned: READY, and no older entry of its link ID remains (R14). -/
def presentable (e : Entry) (s : State) : Bool :=
  !s.resetPin && !s.linkResetPin && decide (e.st = .ready) && !s.entries.any fun p => e.older p.2

/-- RESPONSE_TAKEN (R14). -/
def execResponseTaken (n : Fin 32) (s : State) : Out :=
  match s.entry n with
  | none => .next s
  | some e =>
    if presentable e s then
      .next { s.freeEntry n with
        linkOut := s.linkOut ++ [{ id := e.id, write := e.write, code := e.response.map Response.code, data := e.buf }] }
    else .next s

/-! ### Hold expiry (R15) -/

/-- The hold limit applies in this state (Table 1-6). -/
def EntryState.held (st : EntryState) : Bool :=
  match st with
  | .waitingSpace | .waitingRun | .waitingFrames => true
  | .forwarded | .waitingMemory | .ready => false

/-- The hold of an entry has run out (R15, R181). -/
def holdOver (e : Entry) (s : State) : Bool :=
  e.st.held && decide (s.holdLimit ≠ 0) && decide (s.holdLimit ≤ (s.tsc - e.holdStart).toNat)

/-- The channel that holds a write: the one attached to its letter. -/
def writeChannel (e : Entry) (s : State) : Nat := ((s.letter e.num).channel).getD 0

/-- A held write expires: it leaves its channel's list, and the write behind a head is considered (R15, R93). Which notice
comes first no rule says: DESIGN CHOICE, HOLD_EXPIRED before those of the considered write, unsafe (log 42). -/
def expireWrite (n : Nat) (e : Entry) (s : State) : State :=
  let c := writeChannel e s
  let s1 := post (holdExpired e (some c)) ((leaveList c n s).setEntry n e.refuse)
  if (s.channel c).waiting.head? = some n then consider c s1 else s1

/-- A held read expires: its needs leave where they wait (R15, R122). -/
def expireRead (n : Nat) (e : Entry) (s : State) : State :=
  post (holdExpired e none) ((dropNeeds n s).setEntry n e.refuse)

/-- HOLD_EXPIRY (R15). -/
def execHoldExpiry (n : Fin 32) (s : State) : Out :=
  match s.entry n with
  | none => .next s
  | some e =>
    if holdOver e s then .next (if e.write then expireWrite n e s else expireRead n e s) else .next s

end Sys2Proof.Machine
end

