-- ==== Sys2Proof/Machine/RawPath.lean ====
section
/-! DEFINITION. The answers of the raw path's slot accesses: TIME reads, exports and imports (Chapters 8 and 9). -/

namespace Sys2Proof.Machine

open Sys2Proof

/-- Post MEMORY_FAULT for a slot read that failed (R160, R166). -/
def faultNotice (code : MemCode) (a : Access) (s : State) : State :=
  match code with
  | .okay => s
  | .other _ => post (memoryFault a.letter a.frame a.bin a.slot) s

/-- The level of an answered slot read (R160): of the amplitude field as it stands, 0 for a failed answer. -/
def answerLevel (code : MemCode) (data : List Byte) : Nat :=
  match code with
  | .okay => levelOf (recordAmplitude data)
  | .other _ => 0

/-- A frame of entry n's TIME read carries a cue, as fixed at the take (R157). -/
def cuedFrame (n f : Nat) (s : State) : Bool :=
  match s.entry n with
  | none => false
  | some e => e.cued.contains f

/-- A slot read of a TIME read is answered (R160). Whether its MEMORY_FAULT is posted, with the status block that reports the
free bins, before or after the bin hold is released no rule says: DESIGN CHOICE, before, unsafe (log 39). -/
def answerTime (n : Nat) (a : Access) (code : MemCode) (data : List Byte) (s : State) : State :=
  let flag := flagByte false (cuedFrame n a.frame s) (answerLevel code data)
  let s1 := mapBuffer n (fun off j old => if off + j = 4 * a.frame + 3 then flag else old) s
  finishRead a.kind n (retireAccess a (faultNotice code a s1))

/-- TIME_SLOT_READ_ANSWER (R160). -/
def execTimeSlotReadAnswer (n : Fin 32) (frame : Nat) (code : MemCode) (data : List Byte) (s : State) : Out :=
  if answerWf 80 code data then
    match s.raw.find? (Access.isFor (.timeRead n) frame) with
    | none => .next s
    | some a => .next (answerTime n a code data s)
  else .refused (.illFormed "TIME_SLOT_READ_ANSWER")

/-- The bytes of a unit that an answered export read gives: the record as read, or zero (R166). -/
def exportBytes (code : MemCode) (data : List Byte) : List Byte :=
  match code with
  | .okay => data
  | .other _ => zeros 80

/-- The test of an exported record, not made while RESETTING (R166). -/
def exportTest (a : Access) (code : MemCode) (data : List Byte) (s : State) : State :=
  match code with
  | .other _ => s
  | .okay =>
    if s.part = .resetting then s
    else
      match testRecord data with
      | none => s
      | some c => post (frameDamaged a.letter a.frame a.bin a.slot c) (setDamaged a.letter s)

/-- An EXPORT_READ is answered (R166). Its notice is posted before the bin hold is released (DESIGN CHOICE, unsafe, log 39). -/
def answerExport (n : Nat) (a : Access) (code : MemCode) (data : List Byte) (s : State) : State :=
  let bytes := exportBytes code data
  let s1 := mapBuffer n (fun off j old =>
    if (off + j) / 128 = a.frame ∧ (off + j) % 128 < 80 then bytes.getD ((off + j) % 128) 0 else old) s
  finishRead a.kind n (retireAccess a (faultNotice code a (exportTest a code data s1)))

/-- EXPORT_READ_ANSWER (R166). -/
def execExportReadAnswer (n : Fin 32) (frame : Nat) (code : MemCode) (data : List Byte) (s : State) : Out :=
  if answerWf 80 code data then
    match s.raw.find? (Access.isFor (.exportRead n) frame) with
    | none => .next s
    | some a => .next (answerExport n a code data s)
  else .refused (.illFormed "EXPORT_READ_ANSWER")

/-- The access is an IMPORT_WRITE of this slot. -/
def Access.isImport (b slot : Nat) (a : Access) : Bool :=
  match a.kind with
  | .importWrite _ => decide (a.bin = b) && decide (a.slot = slot)
  | .exportRead _ => false
  | .timeRead _ => false

/-- The channel of an IMPORT_WRITE. -/
def Access.channel (a : Access) : Nat :=
  match a.kind with
  | .importWrite c => c
  | .exportRead _ => 0
  | .timeRead _ => 0

/-- A channel whose queued frame i enters READY (R171). -/
def Channel.readyAt (ch : Channel) (i : Nat) : Channel :=
  { ch with queue := ch.queue.modify i fun f => { f with stage := .ready } }

/-- The answer of an import's slot write reaches its channel (R171). -/
def answerImport (c b slot : Nat) (code : MemCode) (s : State) : State :=
  match (s.channel c).queue.findIdx? fun f => decide (f.place = some (b, slot)) with
  | none => s
  | some i =>
    match code with
    | .okay => settleQueue c (s.setChannel c ((s.channel c).readyAt i))
    | .other _ => settleQueue c (dropFrame c i .memory s)

/-- IMPORT_WRITE_ANSWER (R163, R171): during a pool reset the access ends and nothing else changes. -/
def execImportWriteAnswer (b slot : Nat) (code : MemCode) (s : State) : Out :=
  match s.raw.find? (Access.isImport b slot) with
  | none => .next s
  | some a =>
    let s1 : State := { s with raw := s.raw.filter fun x => !x.isImport b slot }
    .next (if s.part = .resetting then s1 else answerImport a.channel b slot code s1)

end Sys2Proof.Machine
end

