-- ==== Sys2Proof/Machine/Dispatch.lean ====
section
/-! DEFINITION. The meaning of each command: one arm per constructor of Instr. -/

namespace Sys2Proof.Machine

open Sys2Proof

def exec (i : Instr) (s : State) : Host.Outcome State Fault Refusal :=
  match i with
  | .powerOnReset => Sys2Proof.Machine.execPowerOnReset s
  | .resetRelease cpsel => Sys2Proof.Machine.execResetRelease cpsel s
  | .linkReset => Sys2Proof.Machine.execLinkReset s
  | .linkResetRelease => Sys2Proof.Machine.execLinkResetRelease s
  | .transactionAccept entry t => Sys2Proof.Machine.execTransactionAccept entry t s
  | .memoryResponse entry code data => Sys2Proof.Machine.execMemoryResponse entry code data s
  | .responseTaken entry => Sys2Proof.Machine.execResponseTaken entry s
  | .holdExpiry entry => Sys2Proof.Machine.execHoldExpiry entry s
  | .commandProducerIndexWrite entry => Sys2Proof.Machine.execCommandProducerIndexWrite entry s
  | .noticeConsumerIndexWrite entry => Sys2Proof.Machine.execNoticeConsumerIndexWrite entry s
  | .badCommand code => Sys2Proof.Machine.execBadCommand code s
  | .configure => Sys2Proof.Machine.execConfigure s
  | .configurationReadAnswer code data => Sys2Proof.Machine.execConfigurationReadAnswer code data s
  | .poolReset opt => Sys2Proof.Machine.execPoolReset opt s
  | .poolResetEnd => Sys2Proof.Machine.execPoolResetEnd s
  | .letterOpen letter channel tag opt => Sys2Proof.Machine.execLetterOpen letter channel tag opt s
  | .letterClose letter => Sys2Proof.Machine.execLetterClose letter s
  | .closeCompletion channel => Sys2Proof.Machine.execCloseCompletion channel s
  | .letterFile letter => Sys2Proof.Machine.execLetterFile letter s
  | .letterHold letter opt => Sys2Proof.Machine.execLetterHold letter opt s
  | .letterDiscard letter => Sys2Proof.Machine.execLetterDiscard letter s
  | .discardWalkStep => Sys2Proof.Machine.execDiscardWalkStep s
  | .letterQuery letter => Sys2Proof.Machine.execLetterQuery letter s
  | .channelSet channel opt v1 v2 v3 => Sys2Proof.Machine.execChannelSet channel opt v1 v2 v3 s
  | .cursorAttach cursor letter v1 v2 => Sys2Proof.Machine.execCursorAttach cursor letter v1 v2 s
  | .cursorDetach cursor => Sys2Proof.Machine.execCursorDetach cursor s
  | .cursorStep cursor v1 v2 => Sys2Proof.Machine.execCursorStep cursor v1 v2 s
  | .cursorRate cursor v1 v2 v3 v4 => Sys2Proof.Machine.execCursorRate cursor v1 v2 v3 v4 s
  | .cursorTarget cursor opt v1 => Sys2Proof.Machine.execCursorTarget cursor opt v1 s
  | .cueAdd letter opt mode tag v1 => Sys2Proof.Machine.execCueAdd letter opt mode tag v1 s
  | .cueRemove letter opt v1 => Sys2Proof.Machine.execCueRemove letter opt v1 s
  | .encodeGrant engine => Sys2Proof.Machine.execEncodeGrant engine s
  | .codingComplete engine => Sys2Proof.Machine.execCodingComplete engine s
  | .encodeJobComplete engine code => Sys2Proof.Machine.execEncodeJobComplete engine code s
  | .decodeGrant engine => Sys2Proof.Machine.execDecodeGrant engine s
  | .decodeReadAnswer engine code data => Sys2Proof.Machine.execDecodeReadAnswer engine code data s
  | .decodeJobComplete engine => Sys2Proof.Machine.execDecodeJobComplete engine s
  | .roomWaitingLookup => Sys2Proof.Machine.execRoomWaitingLookup s
  | .writeTaken channel => Sys2Proof.Machine.execWriteTaken channel s
  | .runBegin channel => Sys2Proof.Machine.execRunBegin channel s
  | .timeSlotReadAnswer entry frame code data => Sys2Proof.Machine.execTimeSlotReadAnswer entry frame code data s
  | .exportReadAnswer entry frame code data => Sys2Proof.Machine.execExportReadAnswer entry frame code data s
  | .importWriteAnswer bin slot code => Sys2Proof.Machine.execImportWriteAnswer bin slot code s

end Sys2Proof.Machine
end

