-- ==== Sys2Proof/Safety.lean ====
section
/-! DEFINITION. What counts as a safe step and as a sound state, in the terms the claims use. -/

namespace Sys2Proof

open Machine

/-- Byte address j of a transaction, modulo 2^48 (R5). -/
def Txn.byteAddr (t : Txn) (j : Nat) : Nat := (t.addr.toNat + j) % 2 ^ 48

/-- The span of a transaction's first byte. -/
def Txn.span (t : Txn) : Nat := spanOf t.addr.toNat

/-- Offset in its span of a transaction's first byte. -/
def Txn.offset (t : Txn) : Nat := t.addr.toNat % 2 ^ 25

/-- A write that its channel does not refuse at hand-over: an aligned PCM16 write, a PCM8 write, or a RAW write of one whole
unit whose record passes its test (R87, R168). -/
def Txn.handed (t : Txn) (view : Nat) : Prop :=
  (view = 0 ∧ t.offset % 2 = 0 ∧ t.len % 2 = 0) ∨ view = 1 ∨
  (view = 3 ∧ t.offset % 128 = 0 ∧ t.len = 128 ∧ testImport (bytesAt t.data 0 80) = none)

end Sys2Proof

namespace Sys2Proof.Machine

open Sys2Proof

/-- The outcome is a next state of which `P` holds. -/
def NextWith (o : Host.Outcome State Fault Refusal) (P : State → Prop) : Prop := ∃ t, o = .next t ∧ P t

/-- A property that every step keeps, from every state that has it. -/
def StepKeeps (P : State → Prop) : Prop := ∀ s t, P s → step s = .next t → P t

/-! ### What changes: the state with groups of fields set aside -/

/-- The state with the fields set aside that taking a command and reporting change: the command consumer
and its fetch, the last result, the notice ring's indices, flags and marks, and the issued requests. -/
def State.body (s : State) : State :=
  { s with consumer := 0, fetching := false, cfgPending := false, lastResult := .done, lastSlot := 0
           prod := 0, overflow := false, lost := 0, loud := [], portOut := [] }

/-- The state with the fields set aside that posting a notice changes: the notice ring's producer index,
overflow flag, lost count and marks, and the issued requests (R178). -/
def State.unreported (s : State) : State :=
  { s with prod := 0, overflow := false, lost := 0, loud := [], portOut := [] }

/-- The body with the transaction table set aside. -/
def State.entryMask (s : State) : State := { s.body with entries := [] }

/-- The body with what serving reads changes set aside: entries, decode cache, request queue, room waiting list. -/
def State.readMask (s : State) : State :=
  { s.body with entries := [], cache := [], drq := [], room := [], roomDue := 0 }

/-- The body with what finishing and placing frames changes set aside: channels, letters and their free
entries, bins, the decode cache and the cursors' targets. -/
def State.recMask (s : State) : State :=
  { s.body with channels := [], letters := [], freeSegs := 0, bins := [], freeBins := [], cache := []
                cursors := [] }

/-- The body with what writes to a letter change set aside: as `recMask`, the entries and the raw path. -/
def State.writeMask (s : State) : State := { s.recMask with entries := [], raw := [] }

/-! ### What is reported -/

/-- Commands are fetched and judged by their own rules: one has been fetched, and the part is RUNNING. -/
def State.takes (s : State) : Prop := s.fetching = true ∧ s.part = .running

/-- A post is written at once (R178 step 3): configured, no overflow outstanding, and room in the ring. -/
def State.canPost (s : State) : Prop := s.part ≠ .unconfigured ∧ s.overflow = false ∧ s.ringFull = false

/-- One of the part's own writes on the memory port (R52, R178, R180). -/
def partWrite (addr : Nat) (data : List Byte) : PortReq :=
  { entry := none, write := true, addr := BitVec.ofNat 48 addr, len := data.length
    strobes := List.replicate data.length true, data := data }

/-- One of the part's own reads on the memory port (R52, R174, R176). -/
def partRead (addr len : Nat) : PortReq :=
  { entry := none, write := false, addr := BitVec.ofNat 48 addr, len := len, strobes := [], data := [] }

/-- The write of a notice at the producer index, stamped with the timestamp counter (R178). -/
def State.noticeWrite (s : State) (n : Notice) : PortReq :=
  partWrite ((s.cfg.getD default).ringBase + 64 * s.prod) (n.bytes s.tsc)

/-- From s to t, the first request issued is the write of notice n. -/
def Announces (n : Notice) (s t : State) : Prop :=
  ∃ later, t.portOut = s.portOut ++ s.noticeWrite n :: later

/-- From s to t, the first request issued is the write of notice a and, where the ring has room for both, the write of notice b comes next
but for a's status block. -/
def AnnouncesThen (a b : Notice) (s t : State) : Prop :=
  Announces a s t ∧
  let s' : State := { s with prod := (s.prod + 1) % s.ringSize }
  s'.canPost → ∃ first status later, t.portOut = s.portOut ++ first :: status :: s'.noticeWrite b :: later

/-- A command taken from s ends in t with result r: the effect on everything else is that of `e`, the
result and the slot are recorded, the consumer index advances, and when the ring has room COMMAND_DONE is the
first request issued and the only notice (R22, R174, R175). -/
structure Answered (letter unit : Option Nat) (r : Result) (detail : List Byte) (e s t : State) : Prop where
  effect : t.body = e.body
  result : t.lastResult = r
  slot : t.lastSlot = s.consumer
  taken : t.consumer = (s.consumer + 1) % 64
  notice : s.canPost → Announces (commandDone s.consumer letter unit r detail) s t
  once : s.canPost → t.prod = (s.prod + 1) % s.ringSize

/-- The subject fields of a ring command's record: its letter, and its channel or cursor (R175, log 10). -/
def commandSubject (i : Instr) : Option Nat × Option Nat :=
  match i with
  | .letterOpen l c _ _ => (some l.toNat, some c.toNat)
  | .letterClose l | .letterFile l | .letterDiscard l | .letterQuery l => (some l.toNat, none)
  | .letterHold l _ => (some l.toNat, none)
  | .channelSet c _ _ _ _ => (none, some c.toNat)
  | .cursorAttach c l _ _ => (some l.toNat, some c.toNat)
  | .cursorDetach c => (none, some c.toNat)
  | .cursorStep c _ _ => (none, some c.toNat)
  | .cursorRate c _ _ _ _ => (none, some c.toNat)
  | .cursorTarget c _ _ => (none, some c.toNat)
  | .cueAdd l _ _ _ _ => (some l.toNat, none)
  | .cueRemove l _ _ => (some l.toNat, none)
  | .powerOnReset | .resetRelease _ | .linkReset | .linkResetRelease | .transactionAccept _ _
  | .memoryResponse _ _ _ | .responseTaken _ | .holdExpiry _ | .commandProducerIndexWrite _
  | .noticeConsumerIndexWrite _ | .badCommand _ | .configure | .configurationReadAnswer _ _
  | .poolReset _ | .poolResetEnd | .closeCompletion _ | .discardWalkStep | .encodeGrant _
  | .codingComplete _ | .encodeJobComplete _ _ | .decodeGrant _ | .decodeReadAnswer _ _ _
  | .decodeJobComplete _ | .roomWaitingLookup | .writeTaken _ | .runBegin _
  | .timeSlotReadAnswer _ _ _ _ | .exportReadAnswer _ _ _ _ | .importWriteAnswer _ _ _ => (none, none)

/-- The commands that Table 10-5 lists. -/
def knownCommand (i : Instr) : Bool :=
  match i with
  | .configure | .poolReset _ | .letterOpen _ _ _ _ | .letterClose _
  | .letterFile _ | .letterHold _ _ | .letterDiscard _ | .letterQuery _
  | .channelSet _ _ _ _ _ | .cursorAttach _ _ _ _ | .cursorDetach _ | .cursorStep _ _ _
  | .cursorRate _ _ _ _ _ | .cursorTarget _ _ _ | .cueAdd _ _ _ _ _ | .cueRemove _ _ _ => true
  | .powerOnReset | .resetRelease _ | .linkReset | .linkResetRelease | .transactionAccept _ _
  | .memoryResponse _ _ _ | .responseTaken _ | .holdExpiry _ | .commandProducerIndexWrite _
  | .noticeConsumerIndexWrite _ | .badCommand _ | .configurationReadAnswer _ _
  | .poolResetEnd | .closeCompletion _ | .discardWalkStep | .encodeGrant _
  | .codingComplete _ | .encodeJobComplete _ _ | .decodeGrant _ | .decodeReadAnswer _ _ _
  | .decodeJobComplete _ | .roomWaitingLookup | .writeTaken _ | .runBegin _
  | .timeSlotReadAnswer _ _ _ _ | .exportReadAnswer _ _ _ _ | .importWriteAnswer _ _ _ => false

/-- A command that is taken from the ring in this step (R174): a fetched record that is judged or executed,
or the configuration block's answer that ends a CONFIGURE. -/
def takenFromRing (c : Instr) (s : State) : Prop :=
  ((knownCommand c = true ∨ ∃ k, c = .badCommand k) ∧ s.fetching = true ∧
    (c = .configure → s.part ≠ .unconfigured)) ∨
  ((∃ code data, c = .configurationReadAnswer code data) ∧ s.cfgPending = true)

/-- A byte address lies in an area of `n` bytes from a base. -/
def inArea (base n a : Nat) : Prop := base ≤ a ∧ a < base + n

/-! ### Transactions -/

/-- The link port accepts a transaction into entry n: both resets released and the entry free (R8, R18, R19). -/
def linkOpen (n : Nat) (s : State) : Prop := s.resetPin = false ∧ s.linkResetPin = false ∧ s.entry n = none

/-- A transaction that passes every test of Table 1-3: it lies in one claimed span of an enabled view, with a number
the view names, the part is not RESETTING, and a write goes to a writable view with every strobe set. -/
structure Serves (t : Txn) (view num : Nat) (s : State) : Prop where
  oneSpan : spanOf (t.byteAddr (t.len - 1)) = t.span
  aperture : ∃ c, s.cfg = some c ∧ t.span / 2 ^ 13 = c.apTop ∧ c.enabled view = true
  viewIs : spanView t.span = view
  numIs : spanNum t.span = num
  named : view < 4 ∨ (view = 4 ∧ num < 32)
  notResetting : s.part ≠ .resetting
  writable : t.write = true → (view = 0 ∨ view = 1 ∨ view = 3) ∧ t.strobes.contains false = false

/-- The ACCESS_REFUSED notice of a transaction (R7, Table 10-8): subject by view, refusing channel, and view, direction, link ID and
offset of the first byte. -/
def refusalNotice (t : Txn) (view num : Nat) (chan : Option Nat) (r : Reason) : Notice :=
  { kind := .accessRefused, ringSlot := 0
    letter := if view < 4 then some num else none
    unit := match chan with
      | some c => some c
      | none => if view = 4 then some num else none
    code := r.code
    detail := [BitVec.ofNat 8 view, if t.write then 1 else 0, t.id, 0] ++ leBytes 4 t.offset }

/-- From s to u, transaction t is held in entry n in READY with outcome o, response p and, for a read, the given data. -/
structure ReadyAtOnce (n : Nat) (t : Txn) (o : EntryOutcome) (p : Response) (data : List Byte) (s u : State) : Prop where
  entry : ∃ e, u.entry n = some e ∧ e.id = t.id ∧ e.write = t.write ∧ e.rank = s.nextRank ∧ e.st = .ready ∧
    e.outcome = o ∧ e.response = some p ∧ (t.write = false → e.buf = data)
  others : ∀ m, m ≠ n → u.entry m = s.entry m
  rank : u.nextRank = s.nextRank + 1

/-- From s to u, transaction t is refused at once: READY with REFUSED and zero data, an ACCESS_REFUSED notice, and
nothing else (R7). -/
structure RefusedAtOnce (n : Nat) (t : Txn) (view num : Nat) (chan : Option Nat) (r : Reason) (s u : State) : Prop where
  ready : ReadyAtOnce n t .refused .refused (zeros t.len) s u
  notice : s.canPost → Announces (refusalNotice t view num chan r) s u
  rest : { u with entries := s.entries, nextRank := s.nextRank }.unreported = s.unreported

/-- From s to u, entry n holds transaction t and nothing else of the transaction table changes. -/
structure Held (n : Nat) (t : Txn) (e : Entry) (s u : State) : Prop where
  entry : u.entry n = some e
  same : e.id = t.id ∧ e.write = t.write ∧ e.addr = t.addr ∧ e.len = t.len ∧ e.rank = s.nextRank ∧ e.holdStart = s.tsc
  others : ∀ m, m ≠ n → u.entry m = s.entry m
  rank : u.nextRank = s.nextRank + 1

/-- From s to u, write t waits in entry n, in state st, at the tail of channel c's waiting list, channel c is otherwise `ch`,
and nothing else changes (R88). -/
structure WriteWaits (n c : Nat) (t : Txn) (st : EntryState) (ch : Channel) (s u : State) : Prop where
  entry : ∃ e, Held n t e s u ∧ e.st = st ∧ e.response = none ∧ e.outcome = .served ∧ e.buf = t.data
  channel : u.channel c = { ch with waiting := (s.channel c).waiting ++ [n] }
  channels : ∀ d, d ≠ c → u.channel d = s.channel d
  rest : { u with entries := s.entries, nextRank := s.nextRank, channels := s.channels } = s

/-- The samples that the decode cache holds for a frame of a letter, if an entry is VALID for it. -/
def cachedSamples (s : State) (l f : Nat) : Option (List Int) :=
  (s.cache.find? (CacheEntry.validFor l f)).map CacheEntry.samples

/-- From s to u, a need whose frame is not VALID takes the place where it waits (R111, R114): at a FILLING entry, else at a request for
its frame, else at a new request while the queue has room, else at the tail of the room waiting list. -/
structure NeedWaits (w : Need) (s u : State) : Prop where
  cache : u.cache =
    if s.cache.any (CacheEntry.fillingFor w.letter w.frame) then s.cache.map (CacheEntry.join w) else s.cache
  drq : u.drq =
    if s.cache.any (CacheEntry.fillingFor w.letter w.frame) then s.drq
    else if s.drq.any (Request.isFor w.letter w.frame) then s.drq.map (Request.join w)
    else if 64 ≤ s.drq.length then s.drq
    else
      let new : Request := { letter := w.letter, frame := w.frame, urgent := (s.letter w.letter).urgent, waiters := [w] }
      if new.urgent then s.drq.takeWhile (·.urgent) ++ new :: s.drq.dropWhile (·.urgent) else s.drq ++ [new]
  room : u.room =
    if !s.cache.any (CacheEntry.fillingFor w.letter w.frame) && !s.drq.any (Request.isFor w.letter w.frame) &&
      decide (64 ≤ s.drq.length) then s.room ++ [w] else s.room
  due : s.room ≠ [] ∨ u.room = s.room → u.roomDue = s.roomDue
  none : s.room = [] → u.room ≠ s.room → u.roomDue = 0

/-- The numbers of the cache entries are distinct. -/
def cacheNumbered (s : State) : Prop := (s.cache.map (·.num)).Nodup

/-! ### Cursors -/

/-- A candidate frame of a cursor on a cue list (R137). -/
def Cursor.candidate (k : Cursor) (cues : List Cue) (f : Nat) : Prop :=
  (k.follow = true ∧ ∃ c ∈ cues, c.pos = f) ∨ (0 < k.interval ∧ ∃ m, 0 < m ∧ f = m * k.interval)

/-- The target is the smallest candidate above the checked frame, absent when there is none (R137). -/
def Cursor.targetIsNext (k : Cursor) (cues : List Cue) : Prop :=
  match k.target with
  | none => ∀ f : Nat, k.candidate cues f → (f : Int) ≤ k.checked
  | some g => k.candidate cues g ∧ k.checked < (g : Int) ∧
      ∀ f : Nat, k.candidate cues f → k.checked < (f : Int) → g ≤ f

/-- A letter that serves reads: in RECORDING, READY or FILED (R33). -/
def Letter.serves (l : Letter) : Prop := l.state = .recording ∨ l.state = .ready ∨ l.state = .filed

/-- Output o of a read of the first to the last output is in a letter of n frames (R133). -/
def Cursor.inside (k : Cursor) (n first last o : Nat) : Prop :=
  first ≤ o ∧ o ≤ last ∧ k.base ≤ o ∧ k.position o / 4096 < n * 128

/-- Output o of a read of the first to the last output is beyond the end of a letter of n frames (R133). -/
def Cursor.beyond (k : Cursor) (n first last o : Nat) : Prop :=
  first ≤ o ∧ o ≤ last ∧ k.base ≤ o ∧ n * 128 ≤ k.position o / 4096

/-- The sample that the decode cache holds at index i of a letter. -/
def cachedSample (s : State) (l i : Nat) : Option Int :=
  (cachedSamples s l (i / 128)).map fun xs => sampleAt xs (i % 128)

/-- From s to u, the slot reads `as` are issued in order, their accesses are outstanding, and each bin they touch
holds one more read (R49, R157, R164). -/
structure SlotReads (as : List Access) (s u : State) : Prop where
  raw : u.raw = s.raw ++ as
  issued : u.portOut = s.portOut ++ as.map fun a => partRead (s.slotAddr a.bin a.slot) 80
  bins : ∀ b, u.bin b =
    { s.bin b with reads := (s.bin b).reads + if as.any (fun a => decide (a.bin = b)) then 1 else 0 }

/-- From s to u, bin b takes the counts of r and the freeing check runs on it (R50): when r is SHUT with every count 0 the bin
becomes FREE with fill 0 at the tail of the free bin list. No other bin changes. -/
structure BinBecomes (b : Nat) (r : Bin) (s u : State) : Prop where
  freed : r.state = .shut ∧ r.live = 0 ∧ r.inFlight = 0 ∧ r.reads = 0 →
    u.bin b = Bin.fresh ∧ u.freeBins = s.freeBins ++ [b]
  kept : ¬(r.state = .shut ∧ r.live = 0 ∧ r.inFlight = 0 ∧ r.reads = 0) → u.bin b = r ∧ u.freeBins = s.freeBins
  others : ∀ d, d ≠ b → u.bin d = s.bin d

/-- From s to u, slot read a of entry n's read is answered: it leaves the raw path, and the bin's hold is released with the read's last
access in the bin; no other entry changes (R49, R157, R163, R164). -/
structure AccessEnds (n : Nat) (kind : AccessKind) (a : Access) (s u : State) : Prop where
  raw : u.raw = s.raw.filter fun x => !(decide (x.kind = kind) && decide (x.frame = a.frame))
  others : ∀ m, m ≠ n → u.entry m = s.entry m
  bin : if u.raw.any (fun x => decide (x.kind = kind) && decide (x.bin = a.bin)) then
      u.bins = s.bins ∧ u.freeBins = s.freeBins
    else BinBecomes a.bin { s.bin a.bin with reads := (s.bin a.bin).reads - 1 } s u

/-- From s to u, a slot read is answered, and its read is READY with OK with its last access. `bytes off j old` is byte j of the
buffer afterwards. -/
structure SlotReadEnds (n : Nat) (kind : AccessKind) (a : Access) (e : Entry) (bytes : Nat → Nat → Byte → Byte)
    (s u : State) : Prop where
  ends : AccessEnds n kind a s u
  entry : ∃ e', u.entry n = some e' ∧ e'.rank = e.rank ∧ e'.id = e.id ∧ e'.buf.length = e.len ∧
    (∀ j < e.len, e'.buf.getD j 0 = bytes e.offset j (e.buf.getD j 0)) ∧
    (if u.raw.any (fun x => decide (x.kind = kind)) then e'.st = e.st ∧ e'.response = e.response
     else e'.st = .ready ∧ e'.response = some .ok)

/-- In u, the entry of a read that a link reset reserved stays until its last access is answered, and is then free without a
response (R19, R167). -/
def ReservedEnds (n : Nat) (kind : AccessKind) (e : Entry) (u : State) : Prop :=
  if u.raw.any (fun x => decide (x.kind = kind)) then
    ∃ e', u.entry n = some e' ∧ e'.reserved = true ∧ e'.st = e.st ∧ e'.response = e.response
  else u.entry n = none

/-- From s to u, while RESETTING, slot read a of entry n's read is answered: the access ends and no bin or letter changes. A failed
answer is announced with MEMORY_FAULT. With its last access the read is answered REFUSED with zero data and ACCESS_REFUSED, or, where a
link reset reserved it, freed (R17, R19, R160, R163, R166, R167). -/
structure ResettingReadEnds (n : Nat) (kind : AccessKind) (code : MemCode) (a : Access) (e : Entry) (s u : State) : Prop where
  raw : u.raw = s.raw.filter fun x => !(decide (x.kind = kind) && decide (x.frame = a.frame))
  others : ∀ m, m ≠ n → u.entry m = s.entry m
  reserved : e.reserved = true → ReservedEnds n kind e u
  waits : e.reserved = false → u.raw.any (fun x => decide (x.kind = kind)) = true →
    ∃ e', u.entry n = some e' ∧ e'.reserved = false ∧ e'.st = e.st ∧ e'.response = e.response
  refused : e.reserved = false → u.raw.any (fun x => decide (x.kind = kind)) = false →
    (∃ e', u.entry n = some e' ∧ e'.st = .ready ∧ e'.outcome = .refused ∧ e'.response = some .refused ∧ e'.buf = zeros e.len) ∧
    (s.canPost → if code = .okay then Announces (accessRefused .resetting e none) s u
      else AnnouncesThen (memoryFault a.letter a.frame a.bin a.slot) (accessRefused .resetting e none) s u)
  fault : code ≠ .okay → s.canPost → Announces (memoryFault a.letter a.frame a.bin a.slot) s u
  silent : code = .okay → e.reserved = true ∨ u.raw.any (fun x => decide (x.kind = kind)) = true →
    u.portOut = s.portOut ∧ u.prod = s.prod
  rest : { u with entries := s.entries, raw := s.raw }.unreported = s.unreported

/-! ### Coding and service -/

/-- The reconstructions that the encoder holds after each sample, from reconstruction p at step index k (R65). -/
def reconstructions (xs : List Int) (p : Int) (k : Nat) : List Int :=
  match xs with
  | [] => []
  | x :: r =>
    let c := codeOf x p k
    reconstruct p k c.1 c.2 :: reconstructions r (reconstruct p k c.1 c.2) (nextStep k c.2)

/-- A sample of 16 bits. -/
def isSample (x : Int) : Prop := -32768 ≤ x ∧ x ≤ 32767

/-- The distance from a pointer to a channel in the arbiter's search: 0 for pointer + 1, modulo 32 (R110). -/
def searchDistance (ptr c : Nat) : Nat := (c + 63 - ptr) % 32

/-- The slot that the bin table hands out next to channel c (R47). -/
def State.nextSlot (s : State) (c : Nat) : Option (Nat × Nat) :=
  match s.openBin c with
  | some b => some (b, (s.bin b).fill)
  | none => s.freeBins.head?.map fun b => (b, (s.bin b).fill)

/-- From s to u, the slot p is handed out to channel c (R47). -/
structure HandedOut (c : Nat) (p : Nat × Nat) (s u : State) : Prop where
  bin : u.bin p.1 =
    { s.bin p.1 with state := if (s.bin p.1).fill + 1 < 32 then .open_ c else .shut
                     fill := (s.bin p.1).fill + 1, inFlight := (s.bin p.1).inFlight + 1 }
  others : ∀ b, b ≠ p.1 → u.bin b = s.bin b
  free : u.freeBins = if s.openBin c = none then s.freeBins.tail else s.freeBins

/-- A channel whose finished frame f leaves its queue unplaced, from between the frames `ahead` and `behind`: the targets behind
it and the edit point fall by 1 (R98, R101). -/
def Channel.without (ch : Channel) (ahead : List FFrame) (f : FFrame) (behind : List FFrame) : Channel :=
  { ch.setBuffer f.buffer (ch.buffer f.buffer).release with
    queue := ahead ++ behind.map fun g => { g with target := g.target - 1 }
    editPoint := ch.editPoint.map (· - 1) }

/-- A channel whose finished frame f is dropped (R101, R102). -/
def Channel.dropped (ch : Channel) (ahead : List FFrame) (f : FFrame) (behind : List FFrame) : Channel :=
  { ch.without ahead f behind with dropMark := true }

/-- No frame at the head of these is READY, so the channel settles none of them (R98, R100). -/
def headWaits (q : List FFrame) : Prop := ∀ g, q.head? = some g → g.stage ≠ .ready

/-- The frame that the finished queue of a channel takes when a buffer of samples finishes with decision d (R96). -/
def Channel.finishedFrame (ch : Channel) (num target buffer : Nat) (speech : Bool) : FFrame :=
  { letter := num, target := target, speech := speech, mode := ch.mode, cap := if speech then none else some ch.cap
    buffer := buffer, stage := if speech then .awaitingEncode else .ready, place := none }

/-- A channel whose current run has ended, without a fill buffer (R90). -/
def Channel.ended (ch : Channel) : Channel :=
  { ch with runKind := none, nextIdx := none, state := .attached }

/-- A channel whose current run has ended, its fill buffer b padded and finished as a frame for target e with decision d (R90, R95, R96). -/
def Channel.padded (ch : Channel) (num e b : Nat) (d : Bool × Nat) : Channel :=
  { ch.setBuffer b (.finished (padSamples ch.fill)) with
    runKind := none, nextIdx := none, state := .attached, hangCount := d.2, editPoint := some (e + 1)
    queue := ch.queue ++ [ch.finishedFrame num e b d.1] }

/-- A channel that begins a run of a kind with a write of n units from first index i. `len` is the length of its letter (R91, R169). -/
def Channel.begun (ch : Channel) (kind : RunKind) (len i n : Nat) : Channel :=
  { ch with
    state := .run, runKind := some kind, nextIdx := some (i + n), hangCount := 0, dropMark := false
    editPoint := some (min (match kind with | .pcm => i / 128 | .raw => i) len)
    carried := match kind with | .pcm => 16 | .raw => ch.carried }

/-- A channel once fill buffer b has filled up with `full`, the fill with the samples of a write behind it, at most 256, where no frame is
settled at once: the first 128 are a finished frame for target e, and those after them stand in the other buffer (R92, R96). -/
def Channel.filled (ch : Channel) (num e b : Nat) (full : List Int) : Channel :=
  let d := hushDecision ch.threshold ch.hang ch.hangCount (meanAmplitude (full.take 128))
  let d2 := hushDecision ch.threshold ch.hang d.2 (meanAmplitude (full.drop 128))
  let one : Channel :=
    { ch.setBuffer b (.finished (full.take 128)) with
      hangCount := d.2, editPoint := some (e + 1), queue := ch.queue ++ [ch.finishedFrame num e b d.1] }
  if full.length < 128 then ch.setBuffer b (.filling full)
  else if full.length = 128 then one
  else if full.length < 256 then one.setBuffer (1 - b) (.filling (full.drop 128))
  else
    { one.setBuffer (1 - b) (.finished (full.drop 128)) with
      hangCount := d2.2, editPoint := some (e + 2), queue := one.queue ++ [ch.finishedFrame num (e + 1) (1 - b) d2.1] }

/-- The new segment entries a frame costs after the segment, if any, that ends at its target: 0 when it extends that segment, else 1; `lim`
is the number of frames a HUSH segment must hold fewer of (R55). -/
def FFrame.newEntries (f : FFrame) (lim : Nat) (g : Option Seg) : Nat :=
  match f.item, g with
  | .speech b sl, some (.speech b' first n) => if b = b' ∧ first + n = sl then 0 else 1
  | .hush, some (.hush n) => if n < lim then 0 else 1
  | .speech _ _, some (.hush _) => 1
  | .hush, some (.speech _ _ _) => 1
  | .speech _ _, none => 1
  | .hush, none => 1

/-- From s to u, frame f of channel c is dropped for reason r: its letter is INCOMPLETE unless it is FREE, and the first drop of a run is
announced (R32, R101, R102). -/
structure DropReported (c : Nat) (f : FFrame) (r : DropReason) (s u : State) : Prop where
  letters : ∀ m, u.letter m =
    if m = f.letter ∧ (s.letter m).state ≠ .free then { s.letter m with incomplete := true } else s.letter m
  notice : (s.channel c).dropMark = false → s.canPost → Announces (frameDropped f.letter c f.target r) s u
  quiet : (s.channel c).dropMark = true → u.portOut = s.portOut ∧ u.prod = s.prod

/-- From s to u, frame f of channel c is placed into letter num: its letter takes it, the free segment entries pay for it, and bins, cache,
cues and targets follow as `PlacementIsOneChange` says. Channel c stands apart. -/
structure Placed (c num : Nat) (f : FFrame) (s u : State) : Prop where
  letter : u.letter num = (s.letter num).place f
  entries : u.freeSegs + (u.letter num).segs.length = s.freeSegs + (s.letter num).segs.length
  rest : let v := commitPlacement c f (s.setChannel c { s.channel c with queue := [f] })
    { u with channels := v.channels } = v

/-- From s to u, buffer b of channel c finishes as a HUSH frame for target e on an empty queue and is settled at once: discarded by the
cap, dropped for the limit it meets, or placed (R96, R98, R101). `after` is what the samples behind it then make of the channel, whose
edit point it is given. -/
structure HushSettles (c num e b : Nat) (after : Nat → Channel → Channel) (s u : State) : Prop where
  channels : ∀ k, k ≠ c → u.channel k = s.channel k
  letters : ∀ m, m ≠ num → u.letter m = s.letter m
  discarded : capDiscards ((s.channel c).finishedFrame num e b false) (s.letter num) = true →
    u.channel c = after e { (s.channel c).setBuffer b .free with hangCount := 0 } ∧ { u with channels := s.channels } = s
  dropped : ∀ r, capDiscards ((s.channel c).finishedFrame num e b false) (s.letter num) = false →
    placeLimit ((s.channel c).finishedFrame num e b false) (s.letter num) s.freeSegs = some r →
      u.channel c = after e { (s.channel c).setBuffer b .free with hangCount := 0, dropMark := true } ∧
      DropReported c ((s.channel c).finishedFrame num e b false) r s u ∧
      { u with channels := s.channels, letters := s.letters }.unreported = s.unreported
  placed : capDiscards ((s.channel c).finishedFrame num e b false) (s.letter num) = false →
    placeLimit ((s.channel c).finishedFrame num e b false) (s.letter num) s.freeSegs = none →
      u.channel c = after (e + 1) { (s.channel c).setBuffer b .free with hangCount := 0, editPoint := some (e + 1) } ∧
      Placed c num ((s.channel c).finishedFrame num e b false) s u

/-- From s to u, `full`, the fill of channel c with the samples of a write behind it, enters fill buffer b (R92, R96, R98). Where the
first 128 samples finish a frame that waits in the queue, the channel is `filled`; where they finish a HUSH frame on an empty queue it is
settled at once, and the samples after it begin buffer 0, both being FREE (the model's choice, log 22). -/
def SamplesEnter (c num e b : Nat) (full : List Int) (s u : State) : Prop :=
  let ch := s.channel c
  let rest := full.drop 128
  let d := hushDecision ch.threshold ch.hang ch.hangCount (meanAmplitude (full.take 128))
  let d2 := hushDecision ch.threshold ch.hang d.2 (meanAmplitude rest)
  let waits := full.length < 128 ∨ d.1 = true ∨ ch.queue ≠ []
  (waits → u.channel c = ch.filled num e b full ∧ (∀ k, k ≠ c → u.channel k = s.channel k) ∧
    { u with channels := s.channels } = s) ∧
  (¬waits → full.length < 256 ∨ d2.1 = true →
    HushSettles c num e b (fun e' x => if rest = [] then x else x.filled num e' 0 rest) s u) ∧
  (¬waits → full.length = 256 → d2.1 = false →
    ∃ v e', HushSettles c num e b (fun _ x => x) s v ∧ (v.channel c).editPoint = some e' ∧
      HushSettles c num e' 0 (fun _ x => x) v u)

/-- From s to u, an imported record r enters FREE buffer b of channel c as a frame for target e (R169 to R171). A SPEECH record takes a slot
from the bin table, is rewritten, and its slot write is issued; without a slot its frame is dropped for BINS. A HUSH record waits in the
queue behind others; on an empty queue it is placed at once, or dropped for the limit it meets. -/
def RecordEnters (c num e b : Nat) (r : List Byte) (s u : State) : Prop :=
  let ch := s.channel c
  let w := rewriteRecord num r
  let frame := fun (speech : Bool) (st : Stage) (place : Option (Nat × Nat)) =>
    ({ letter := num, target := e, speech := speech, mode := ch.mode, cap := none, buffer := b, stage := st
       place := place } : FFrame)
  let joined := fun (bytes : List Byte) (f : FFrame) =>
    { ch.setBuffer b (.record bytes) with editPoint := some (e + 1), queue := ch.queue ++ [f] }
  let hush := frame false .ready none
  (∀ k, k ≠ c → u.channel k = s.channel k) ∧
  (∀ p, recordKind r ≠ 0x48 → s.nextSlot c = some p →
    HandedOut c p s u ∧ u.channel c = joined w (frame true .encoding (some p)) ∧
    u.raw = s.raw ++ [{ kind := .importWrite c, letter := num, frame := e, bin := p.1, slot := p.2 }] ∧
    u.portOut = s.portOut ++ [partWrite (s.slotAddr p.1 p.2) w] ∧
    { u with channels := s.channels, bins := s.bins, freeBins := s.freeBins, raw := s.raw, portOut := s.portOut } = s) ∧
  (recordKind r ≠ 0x48 → s.nextSlot c = none →
    u.channel c = { ch with dropMark := true } ∧ DropReported c (frame true .awaitingEncode none) .bins s u ∧
    { u with channels := s.channels, letters := s.letters }.unreported = s.unreported) ∧
  (recordKind r = 0x48 → ch.queue ≠ [] →
    u.channel c = joined r hush ∧ { u with channels := s.channels } = s) ∧
  (recordKind r = 0x48 → ch.queue = [] →
    (∀ x, placeLimit hush (s.letter num) s.freeSegs = some x →
      u.channel c = { ch with dropMark := true } ∧ DropReported c hush x s u ∧
      { u with channels := s.channels, letters := s.letters }.unreported = s.unreported) ∧
    (placeLimit hush (s.letter num) s.freeSegs = none →
      u.channel c = { ch with editPoint := some (e + 1) } ∧ (∀ m, m ≠ num → u.letter m = s.letter m) ∧ Placed c num hush s u))

/-- The run kind of a write, by its view (R91, R169). -/
def viewKind (view : Nat) : RunKind := if view = 3 then .raw else .pcm

/-- The units of a write: samples, or one record (R87, R169). -/
def unitCount (view len : Nat) : Nat := if view = 3 then 1 else if view = 0 then len / 2 else len

/-- From s to u, a write's data enters channel c: a record, or samples behind the fill (R92, R169). -/
def WriteEnters (c num e b view : Nat) (data : List Byte) (s u : State) : Prop :=
  if view = 3 then RecordEnters c num e b (bytesAt data 0 80) s u
  else SamplesEnter c num e b ((s.channel c).fill ++ if view = 0 then samples16 data else samples8 data) s u

/-- The finished queue of a channel is empty once its current run, if any, has ended for a run-starting write: it is empty now, and a fill
buffer, if there is one, is padded to a HUSH frame, which is settled at once (R84, R90). -/
def Channel.givesWay (ch : Channel) : Prop :=
  ch.queue = [] ∧
  (ch.buf0 = .free ∧ ch.buf1 = .free ∨
   ∃ b e, ch.runKind ≠ none ∧ ch.fillBuffer = some b ∧ ch.buffer (1 - b) = .free ∧ ch.fill.length < 128 ∧
     ch.editPoint = some e ∧
     (hushDecision ch.threshold ch.hang ch.hangCount (meanAmplitude (padSamples ch.fill))).1 = false)

/-- From s to v, the pad of channel c, if it has a fill buffer, is settled at once (R90, R95, R98). -/
def PadSettles (c num : Nat) (s v : State) : Prop :=
  ((s.channel c).fillBuffer = none → v = s) ∧
  ∀ b e, (s.channel c).fillBuffer = some b → (s.channel c).editPoint = some e →
    HushSettles c num e b (fun _ x => x) s v

/-- From s to u, a run-starting write of channel c begins its run in the same consideration: the pad of the run before it is settled, the
channel takes the run's values from the write's first index i and from the letter as it then stands, and the write's data enter buffer 0
(R84, R90, R91, R169; the buffer is the model's choice, log 22). `tune` is what a CHANNEL_SET between the two sets. -/
def RunBegins (c num view i len : Nat) (data : List Byte) (tune : Channel → Channel) (s u : State) : Prop :=
  ∃ v, PadSettles c num s v ∧
    let n := (v.letter num).length
    let w := v.setChannel c ((tune (v.channel c)).begun (viewKind view) n i (unitCount view len))
    ∃ e, (w.channel c).editPoint = some e ∧ WriteEnters c num e 0 view data w u

/-- From s to u, every waiter's read copies frame f from the given samples, and no other entry changes (R117, R119). -/
def Served (ws : List Need) (f : Nat) (xs : List Int) (s u : State) : Prop :=
  ∀ n, u.entry n = (s.entry n).map fun e => if ws.any (fun w => decide (w.entry = n)) then e.copyFrame f xs else e

/-! ### Sound states -/

/-- The tables are in their canonical form. -/
structure TablesOk (s : State) : Prop where
  letters : Tab.wf Letter.free s.letters = true
  channels : Tab.wf Channel.initial s.channels = true
  cursors : Tab.wf Cursor.initial s.cursors = true
  bins : Tab.wf Bin.fresh s.bins = true
  entries : Tab.risesFrom 0 s.entries = true

/-- The step indices that a codec engine holds. -/
def Engine.indicesOk (e : Engine) : Prop :=
  match e with
  | .coding _ _ _ _ kin _ _ => kin ≤ 79
  | .writing _ _ _ kin _ _ kout => kin ≤ 79 ∧ kout ≤ 79
  | .free => True
  | .reading _ _ _ _ _ => True
  | .decoding _ _ _ _ _ _ => True

/-- Registers within their ranges, over tables in canonical form: a channel's parameters, hang counter and carried index (R64, R83, R103), a
cursor's rates, base and temporary duration (R125), the arbiter's pointers (R109), the ring indices and the lost count (R174, R176,
R178). -/
structure RegistersOk (s : State) : Prop where
  tables : TablesOk s
  threshold : ∀ c, (s.channel c).threshold ≤ 32767
  hang : ∀ c, (s.channel c).hang ≤ 63 ∧ (s.channel c).hangCount ≤ 63
  cap : ∀ c, (s.channel c).cap ≤ 4096
  carried : ∀ c, (s.channel c).carried ≤ 79
  engines : s.engine0.indicesOk ∧ s.engine1.indicesOk
  rate : ∀ c, 2048 ≤ (s.cursor c).rate ∧ (s.cursor c).rate ≤ 6144
  tempRate : ∀ c, 2048 ≤ (s.cursor c).tempRate ∧ (s.cursor c).tempRate ≤ 6144
  base : ∀ c, (s.cursor c).base ≤ 16777215 ∧ (s.cursor c).tempDur ≤ 16777215
  interval : ∀ c, (s.cursor c).interval ≤ 65535
  pointers : s.pressedPtr ≤ 31 ∧ s.unpressedPtr ≤ 31
  consumer : s.consumer < 64
  lost : s.lost ≤ 65535
  ring : ∀ c, s.cfg = some c → ringSizeOk c.ringSize = true ∧ s.prod < c.ringSize

/-- A cache entry that serves a key: VALID or FILLING with it (R113). -/
def CacheEntry.serves (e : CacheEntry) (l f : Nat) : Prop := e.validFor l f = true ∨ e.fillingFor l f = true

/-- An engine's decode job is for this cache entry and key. -/
def Engine.decodesInto (g : Engine) (num l f : Nat) : Prop :=
  (∃ b sl, g = .reading l f b sl num) ∨ ∃ b sl r, g = .decoding l f b sl num r

/-- The decode cache and its queue are sound (R111, R113): 32 numbered entries; no two serve one key; at most 64 requests, for
distinct keys that no entry serves; and the entries in FILLING or STALE are exactly those with a decode job, each its own. -/
structure CacheOk (s : State) : Prop where
  numbers : (s.cache.map (·.num)).Perm (List.range 32)
  keys : s.cache.Pairwise fun a b => ∀ l f, ¬(a.serves l f ∧ b.serves l f)
  size : s.drq.length ≤ 64
  requests : s.drq.Pairwise fun a b => ¬(a.letter = b.letter ∧ a.frame = b.frame)
  fresh : ∀ r ∈ s.drq, ∀ e ∈ s.cache, ¬e.serves r.letter r.frame
  jobs : ∀ g num l f, (s.engine g).decodesInto num l f →
    ∃ e ∈ s.cache, e.num = num ∧ ∃ b sl ws, e.st = .filling l f b sl ws ∨ e.st = .stale l f b sl ws
  pending : ∀ e ∈ s.cache, ∀ l f b sl ws, e.st = .filling l f b sl ws ∨ e.st = .stale l f b sl ws →
    ∃ g, (s.engine g).decodesInto e.num l f
  apart : ∀ num l f l' f', ¬(s.engine0.decodesInto num l f ∧ s.engine1.decodesInto num l' f')

/-- Letters, channels and cursors agree on what is attached to what (R21, R36, R83, R84, R126): a letter is in RECORDING exactly
when a channel is attached to it, the channel its field names; an IDLE or FLUSHING channel holds no run and no write; the discard
queue holds each letter in it once, in DISCARDING; and the cursor count of a letter is the number of cursors attached to it. -/
structure JoinedOk (s : State) : Prop where
  tables : TablesOk s
  recording : ∀ n, (s.letter n).state = .recording ↔ (s.letter n).channel ≠ none
  attached : ∀ n c, (s.letter n).channel = some c ↔ (s.channel c).letter = some n
  idle : ∀ c, (s.channel c).state = .idle ↔ (s.channel c).letter = none
  quiet : ∀ c, (s.channel c).state = .idle ∨ (s.channel c).state = .flushing →
    (s.channel c).runKind = none ∧ (s.channel c).waiting = []
  discarding : ∀ x ∈ s.discardQueue, (s.letter x.letter).state = .discarding
  once : (s.discardQueue.map (·.letter)).Nodup
  cursors : ∀ c n, (s.cursor c).letter = some n → (s.letter n).serves
  counts : ∀ n, (s.letter n).cursorCount = (s.cursors.filter fun p => decide (p.2.letter = some n)).length

/-- Every attached cursor's target is the smallest candidate above its checked frame, and an IDLE cursor has none (R137, R140). -/
def TargetsOk (s : State) : Prop :=
  ∀ c, match (s.cursor c).letter with
    | none => (s.cursor c).target = none
    | some n => (s.cursor c).targetIsNext (s.letter n).cues

/-- The segment pool: the free entries and the entries of the letters' lists are 16384 together (R41). -/
structure SegmentsOk (s : State) : Prop where
  letters : Tab.wf Letter.free s.letters = true
  pool : s.freeSegs + (s.letters.map fun p => p.2.segs.length).sum = 16384

/-- The cue pool and the cue lists (R148, R149): the free records and the cues in use are 2048 together; each list is in order, without two
cues of one position and kind, of at most 64 cues within the letter; a FREE letter has none. -/
structure CuesOk (s : State) : Prop where
  letters : Tab.wf Letter.free s.letters = true
  pool : s.freeCues + (s.letters.map fun p => p.2.cues.length).sum = 2048
  ordered : ∀ n, (s.letter n).cues.Pairwise fun a b => a.before b = true
  size : ∀ n, (s.letter n).cues.length ≤ 64
  within : ∀ n, ∀ q ∈ (s.letter n).cues, q.pos ≤ (s.letter n).length
  free : ∀ n, (s.letter n).state = .free → (s.letter n).cues = []

/-- The bin table (R45 to R47): a FREE bin has fill 0, an OPEN bin 1 to 31 and a SHUT bin 32; only bins of the table are in use; the free
bin list holds each FREE bin once and no other; a channel owns at most one OPEN bin. -/
structure BinsOk (s : State) : Prop where
  bins : Tab.wf Bin.fresh s.bins = true
  free : ∀ b, (s.bin b).state = .free → (s.bin b).fill = 0
  open_ : ∀ b c, (s.bin b).state = .open_ c → 1 ≤ (s.bin b).fill ∧ (s.bin b).fill ≤ 31
  shut : ∀ b, (s.bin b).state = .shut → (s.bin b).fill = 32
  used : ∀ b, (s.bin b).state ≠ .free → b < s.binCount
  listed : ∀ b, b ∈ s.freeBins ↔ b < s.binCount ∧ (s.bin b).state = .free
  once : s.freeBins.Nodup
  owned : ∀ b d c, (s.bin b).state = .open_ c → (s.bin d).state = .open_ c → b = d

/-! ### The transaction table -/

/-- The needs that wait at a cache entry. -/
def CacheEntry.waiting (e : CacheEntry) : List Need :=
  match e.st with
  | .empty => []
  | .filling _ _ _ _ ws => ws
  | .valid _ _ _ => []
  | .stale _ _ _ _ ws => ws

/-- A cache entry and its waiters are for one frame. -/
def CacheEntry.keyed (e : CacheEntry) : Prop :=
  match e.st with
  | .empty => True
  | .filling l f _ _ ws => ∀ w ∈ ws, w.letter = l ∧ w.frame = f
  | .valid _ _ _ => True
  | .stale l f _ _ ws => ∀ w ∈ ws, w.letter = l ∧ w.frame = f

/-- Every need that waits for room, at a request or at a cache entry. -/
def State.waitingNeeds (s : State) : List Need :=
  s.room ++ s.drq.flatMap (·.waiters) ++ s.cache.flatMap CacheEntry.waiting

/-- The state and the response of an entry fit its outcome (Table 1-5, R11). -/
def Entry.fits (e : Entry) : Prop :=
  match e.outcome with
  | .passThrough => (e.st = .forwarded ∧ e.response = none) ∨ (e.st = .ready ∧ ∃ c, e.response = some (.memory c))
  | .served => e.st ≠ .forwarded ∧ e.response = if e.st = .ready then some .ok else none
  | .refused => e.st = .ready ∧ e.response = some .refused
  | .unmapped => e.st = .ready ∧ e.response = some .unmapped

/-- An entry holds a write for its channel (Table 1-6). -/
def Entry.heldWrite (e : Entry) : Prop := e.st = .waitingSpace ∨ e.st = .waitingRun

/-- An access is a slot read of entry n's TIME or RAW read. -/
def Access.readOf (a : Access) (n : Nat) : Prop := a.kind = .timeRead n ∨ a.kind = .exportRead n

/-- The transaction table is sound (R9 to R14, R19, R88, R119, R163): its numbers and ranks; a response exactly in READY, of the
entry's outcome, with as many bytes as a read's length and none for a write; a held write stands once in the waiting list of the
channel attached to its letter, and only a head waits for a run; the needs of a read in WAITING_FRAMES wait once each, at their
own frame; a read in WAITING_MEMORY has its slot reads outstanding; only entries that wait on memory are reserved. -/
structure EntriesOk (s : State) : Prop where
  table : Tab.risesFrom 0 s.entries = true
  numbers : ∀ n e, s.entry n = some e → n < 32 ∧ 1 ≤ e.len ∧ e.len ≤ 256 ∧ e.rank < s.nextRank
  ranks : ∀ n m e x, s.entry n = some e → s.entry m = some x → e.rank = x.rank → n = m
  responses : ∀ n e, s.entry n = some e → e.fits ∧ (e.response ≠ none ↔ e.st = .ready)
  buffers : ∀ n e, s.entry n = some e → (e.write = false → e.buf.length = e.len) ∧ (e.write = true → e.st = .ready → e.buf = [])
  directions : ∀ n e, s.entry n = some e →
    (e.heldWrite → e.write = true) ∧ (e.st = .waitingFrames ∨ e.st = .waitingMemory → e.write = false)
  reserved : ∀ n e, s.entry n = some e → e.reserved = true → e.st = .forwarded ∨ e.st = .waitingMemory
  queued : ∀ c m, m ∈ (s.channel c).waiting ↔
    ∃ e, s.entry m = some e ∧ e.heldWrite ∧ (s.letter e.num).channel = some c
  attached : ∀ m e, s.entry m = some e → e.heldWrite → (s.letter e.num).channel ≠ none
  lists : ∀ c, (s.channel c).waiting.Nodup
  behind : ∀ c, ∀ m ∈ (s.channel c).waiting.tail, ∀ e, s.entry m = some e → e.st = .waitingSpace
  once : s.waitingNeeds.Nodup
  needs : ∀ w, w ∈ s.waitingNeeds ↔
    ∃ e, s.entry w.entry = some e ∧ e.st = .waitingFrames ∧ e.letter = some w.letter ∧ w.frame ∈ e.needs
  wanted : ∀ n e, s.entry n = some e → e.st = .waitingFrames → e.letter ≠ none ∧ e.needs ≠ [] ∧ e.needs.Nodup
  requests : ∀ r ∈ s.drq, ∀ w ∈ r.waiters, w.letter = r.letter ∧ w.frame = r.frame
  keyed : ∀ e ∈ s.cache, e.keyed
  reads : ∀ a ∈ s.raw, ∀ n, a.readOf n → ∃ e, s.entry n = some e ∧ e.st = .waitingMemory ∧ e.letter = some a.letter ∧
    (a.kind = .timeRead n → e.view = 2) ∧ (a.kind = .exportRead n → e.view = 3)
  memory : ∀ n e, s.entry n = some e → e.st = .waitingMemory → ∃ a ∈ s.raw, a.readOf n
  accesses : s.raw.Pairwise fun a b => ∀ n, a.readOf n → b.readOf n → a.frame ≠ b.frame

/-! ### Finished queues and letter records -/

/-- The finished queues are sound (R83, R84, R86, R96): a run has its kind, its next index and an edit point exactly in RUN; the
frames of a queue are the channel's letter's, their targets count up to the edit point from a frame within the letter; a
slot belongs to a SPEECH frame past its grant, and a cap to a HUSH frame. -/
structure QueuesOk (s : State) : Prop where
  run : ∀ c, (s.channel c).state = .run ↔ (s.channel c).runKind ≠ none
  index : ∀ c, (s.channel c).nextIdx ≠ none ↔ (s.channel c).runKind ≠ none
  point : ∀ c, (s.channel c).runKind ≠ none ∨ (s.channel c).queue ≠ [] → (s.channel c).editPoint ≠ none
  letters : ∀ c, ∀ f ∈ (s.channel c).queue, (s.channel c).letter = some f.letter
  targets : ∀ c e i f, (s.channel c).editPoint = some e → (s.channel c).queue[i]? = some f →
    f.target + (s.channel c).queue.length = e + i
  within : ∀ c e n, (s.channel c).editPoint = some e → (s.channel c).letter = some n →
    (s.channel c).queue.length ≤ e ∧ e ≤ (s.letter n).length + (s.channel c).queue.length
  caps : ∀ c, ∀ f ∈ (s.channel c).queue, f.speech = true → f.cap = none
  slots : ∀ c, ∀ f ∈ (s.channel c).queue, ∀ p, f.place = some p → f.speech = true ∧ f.stage ≠ .awaitingEncode ∧ p.2 < 32

/-- A buffer holds a finished frame. -/
def Buf.isFinished (b : Buf) : Bool := !b.isFree && !b.isFilling

/-- An engine's encode job is for this channel, in this buffer and slot. -/
def Engine.encodes (g : Engine) (c buffer : Nat) (p : Nat × Nat) : Prop :=
  (∃ l xs kin, g = .coding c l buffer xs kin p.1 p.2) ∨ ∃ l kin kout, g = .writing c l buffer kin p.1 p.2 kout

/-- The frame buffers are sound (R85, R86, R97, R100, R163): at most one is FILLING, with 1 to 127 samples of the current PCM run;
a finished frame has 128 samples; each frame of a queue holds a finished buffer of its own, and no other buffer is finished,
so a queue holds at most two frames; a frame that awaits its encode job is SPEECH, with samples. Outside RESETTING an encode
job is for the head of its channel's queue, at most one for a channel, and an import's slot write is for a frame of its
channel's queue. -/
structure BuffersOk (s : State) : Prop where
  filling : ∀ c i xs, (s.channel c).buffer i = .filling xs →
    1 ≤ xs.length ∧ xs.length ≤ 127 ∧ (s.channel c).runKind = some .pcm
  one : ∀ c, ¬((s.channel c).buf0.isFilling = true ∧ (s.channel c).buf1.isFilling = true)
  finished : ∀ c i xs, (s.channel c).buffer i = .finished xs → xs.length = 128
  queued : ∀ c, ∀ f ∈ (s.channel c).queue, f.buffer < 2 ∧ ((s.channel c).buffer f.buffer).isFinished = true
  owned : ∀ c i, i < 2 → ((s.channel c).buffer i).isFinished = true → ∃ f ∈ (s.channel c).queue, f.buffer = i
  apart : ∀ c, ((s.channel c).queue.map (·.buffer)).Nodup
  size : ∀ c, (s.channel c).queue.length ≤ 2
  awaiting : ∀ c, ∀ f ∈ (s.channel c).queue, f.stage = .awaitingEncode →
    f.speech = true ∧ ∃ xs, (s.channel c).buffer f.buffer = .finished xs
  single : ∀ c b p b' p', ¬(s.engine0.encodes c b p ∧ s.engine1.encodes c b' p')
  jobs : s.part ≠ .resetting → ∀ g c b p, (s.engine g).encodes c b p →
    ∃ f q xs, (s.channel c).queue = f :: q ∧ f.stage = .encoding ∧ f.speech = true ∧ f.buffer = b ∧ f.place = some p ∧
      (s.channel c).buffer b = .finished xs
  imports : s.part ≠ .resetting → ∀ a ∈ s.raw, ∀ c, a.kind = .importWrite c →
    ∃ f ∈ (s.channel c).queue, ∃ r, f.stage = .encoding ∧ f.place = some (a.bin, a.slot) ∧
      (s.channel c).buffer f.buffer = .record r

/-- Frames of a segment that is SPEECH. -/
def Seg.speechFrames (g : Seg) : Nat :=
  match g with
  | .speech _ _ n => n
  | .hush _ => 0

/-- A segment within its bounds (R42, Table 3-1): at least one frame, a HUSH segment of at most 4096, a SPEECH segment inside its bin. -/
def Seg.bounded (g : Seg) : Prop :=
  match g with
  | .speech _ first n => 1 ≤ n ∧ first + n ≤ 32
  | .hush n => 1 ≤ n ∧ n ≤ 4096

/-- The letter records (R20, R42): the length is the speech frames and the hush frames together, at most 131072; outside DISCARDING
the segment list has exactly those frames, and in DISCARDING no more; every segment is within its bounds; a FREE letter holds the
free values. -/
structure LettersOk (s : State) : Prop where
  length : ∀ n, (s.letter n).length = (s.letter n).speech + (s.letter n).hush ∧ (s.letter n).length ≤ 131072
  frames : ∀ n, (s.letter n).state ≠ .discarding →
    ((s.letter n).segs.map Seg.frames).sum = (s.letter n).length ∧
    ((s.letter n).segs.map Seg.speechFrames).sum = (s.letter n).speech
  walked : ∀ n, ((s.letter n).segs.map Seg.frames).sum ≤ (s.letter n).length
  bounds : ∀ n, ∀ g ∈ (s.letter n).segs, g.bounded
  free : ∀ n, (s.letter n).state = .free → s.letter n = Letter.free

/-! ### The counts of the bins -/

/-- The slots of a segment, with its bin. -/
def Seg.slots (g : Seg) : List (Nat × Nat) :=
  match g with
  | .speech b first n => (List.range n).map fun i => (b, first + i)
  | .hush _ => []

/-- The slots that the frames of all letters reference (R42, R45). -/
def State.letterSlots (s : State) : List (Nat × Nat) := s.letters.flatMap fun p => p.2.segs.flatMap Seg.slots

/-- The slots handed out for frames that are not yet placed or dropped (R48). -/
def State.queuedSlots (s : State) : List (Nat × Nat) := s.channels.flatMap fun p => p.2.queue.filterMap (·.place)

/-- The TIME and RAW reads with a slot read outstanding in bin b, each once (R49). -/
def State.readsOf (s : State) (b : Nat) : List AccessKind :=
  ((s.raw.filter fun a => decide (a.bin = b)).map (·.kind)).dedup.filter fun k =>
    match k with
    | .timeRead _ => true
    | .exportRead _ => true
    | .importWrite _ => false

/-- The counts of the bins (R42, R45, R48, R49, R51): live counts the letter frames in the bin's slots, in flight the slots of queued
frames, and reads in flight, while the part is not RESETTING, the reads that wait on the bin; live and in flight are at most the
fill; no slot is in use twice, and each one is below its bin's fill. -/
structure CountsOk (s : State) : Prop where
  live : ∀ b, (s.bin b).live = (s.letterSlots.filter fun p => decide (p.1 = b)).length
  inFlight : ∀ b, (s.bin b).inFlight = (s.queuedSlots.filter fun p => decide (p.1 = b)).length
  reads : s.part ≠ .resetting → ∀ b, (s.bin b).reads = (s.readsOf b).length
  fill : ∀ b, (s.bin b).live + (s.bin b).inFlight ≤ (s.bin b).fill ∧ (s.bin b).fill ≤ 32
  apart : (s.letterSlots ++ s.queuedSlots).Nodup
  below : ∀ p ∈ s.letterSlots ++ s.queuedSlots, p.2 < (s.bin p.1).fill

/-- Outside RUNNING nothing is stored: no letter, no channel and no bin differs from its reset record; while UNCONFIGURED there is no
configuration and no slot access either, and only then is the configuration block awaited (R1, R44, R62, R176, R177). -/
structure StoreIdle (s : State) : Prop where
  empty : s.part ≠ .running → s.letters = [] ∧ s.channels = [] ∧ s.bins = []
  unconfigured : s.part = .unconfigured →
    s.cfg = none ∧ s.raw = [] ∧ s.engine0 = .free ∧ s.engine1 = .free ∧ s.binCount = 0 ∧ s.freeBins = []
  awaited : s.cfgPending = true → s.part = .unconfigured

end Sys2Proof.Machine
end

