-- ==== Sys2Proof/Certificates/Slice0/Obligations.lean ====
section
/-! DEFINITION. The statements for the provers: what the commands and the part do, by the numbered rules of the manual. -/

section

open Sys2Proof Sys2Proof.Machine

/-! ### The queue of commands -/

/-- A step with a command at the front of the queue is `exec` of that command on the queue's rest. -/
def Obligations.StepRunsTheFrontCommand : Prop :=
  ∀ (c : Instr) (r : List Instr) (s : State),
    step { s with pending := c :: r } = exec c { s with pending := r }

/-- On an empty queue a step is one microsecond of the timestamp counter, which stands at its value while the reset
pin is asserted and wraps after 2^48 - 1 (R181; the tick is the model's choice, log 3). -/
def Obligations.StepOnEmptyQueueCountsTime : Prop :=
  ∀ s : State, s.pending = [] →
    (s.resetPin = true → step s = .next s) ∧
    (s.resetPin = false →
      NextWith (step s) fun t => t.tsc.toNat = (s.tsc.toNat + 1) % 2 ^ 48 ∧ { t with tsc := s.tsc } = s)

/-- Every command whose operands the ports can carry answers a next state, and every other is refused as ill-formed
(the refusal is the model's choice, log 2). No command touches the queue of waiting commands. Only power-on reset
and the release of the reset pin set the timestamp counter (R181). The configuration copy, which is the aperture
decoder's capture, and the part state change at a power-on reset, at the configuration block's answer, at the take
of a POOL_RESET and at its end, and at nothing else (R1, Table 10-2). -/
def Obligations.CommandsCompleteAndKeepTheRest : Prop :=
  (∀ (c : Instr) (s : State),
     (c.wf = true → ∃ t, exec c s = .next t) ∧ (c.wf = false → ∃ m, exec c s = .refused (.illFormed m))) ∧
  (∀ (c : Instr) (s t : State), exec c s = .next t → t.pending = s.pending) ∧
  (∀ (c : Instr) (s t : State), exec c s = .next t →
     c ≠ .powerOnReset → (∀ p, c ≠ .resetRelease p) → t.tsc = s.tsc) ∧
  (∀ (c : Instr) (s t : State), exec c s = .next t →
     c ≠ .powerOnReset → (∀ code data, c ≠ .configurationReadAnswer code data) → c ≠ .poolResetEnd →
       t.cfg = s.cfg ∧ t.binCount = s.binCount ∧ ((∀ o, c ≠ .poolReset o) → t.part = s.part))

/-! ### Resets, pins and the control monitor -/

/-- The values the manual states after power-on reset (R1, R10, R18, R20, R36, R39, R41, R44, R62, R82 to R84, R106,
R109, R113, R124, R125, R148, R173, R174, R178, R179, R181). The pins: power-on reset gives the reset state; the
release of the reset pin samples the straps, which fix the control-page base, and starts the timestamp counter; the
release of the link-reset input lets the link port go on. The waiting queue and the level of the link-reset input
stay as they are at power-on (the model's choice, log 4). -/
def Obligations.ResetAndPins : Prop :=
  (let s := State.reset
   s.part = .unconfigured ∧ s.cfg = none ∧ s.tsc = 0 ∧
   (∀ n, s.entry n = none) ∧
   (∀ n, s.letter n = Letter.free) ∧ s.longs = [] ∧
   s.freeSegs = 16384 ∧ s.freeCues = 2048 ∧
   s.binCount = 0 ∧ s.freeBins = [] ∧ (∀ c, s.openBin c = none) ∧
   (∀ c, (s.channel c).state = .idle ∧ (s.channel c).letter = none ∧ (s.channel c).mode = .overwrite ∧
     (s.channel c).threshold = 192 ∧ (s.channel c).hang = 10 ∧ (s.channel c).cap = 0 ∧
     (s.channel c).runKind = none ∧ (s.channel c).nextIdx = none ∧ (s.channel c).editPoint = none ∧
     (s.channel c).hangCount = 0 ∧ (s.channel c).carried = 16 ∧ (s.channel c).freeSpace = 256 ∧
     (s.channel c).queue = [] ∧ (s.channel c).waiting = [] ∧ (s.channel c).dropMark = false) ∧
   (∀ e, s.engine e = .free) ∧ s.pressedPtr = 31 ∧ s.unpressedPtr = 31 ∧
   s.cache.map (·.num) = List.range 32 ∧ (∀ e ∈ s.cache, e.st = .empty) ∧ s.drq = [] ∧ s.room = [] ∧
   (∀ c, (s.cursor c).letter = none ∧ (s.cursor c).origin = 0 ∧ (s.cursor c).base = 0 ∧
     (s.cursor c).rate = 4096 ∧ (s.cursor c).tempRate = 4096 ∧ (s.cursor c).tempDur = 0 ∧
     (s.cursor c).lastRead = none ∧ (s.cursor c).endMark = false ∧ (s.cursor c).checked = -1 ∧
     (s.cursor c).target = none ∧ (s.cursor c).interval = 0 ∧ (s.cursor c).follow = false) ∧
   s.raw = [] ∧ s.prodCopy = 0 ∧ s.consumer = 0 ∧ s.consCopy = 0 ∧ s.prod = 0 ∧
   s.overflow = false ∧ s.lost = 0 ∧ (∀ n, s.loudMark n = false) ∧ s.irq = false) ∧
  ((∀ s : State, exec .powerOnReset s =
     .next { State.reset with pending := s.pending, linkResetPin := s.linkResetPin }) ∧
   (∀ (p : BitVec 10) (s : State), s.resetPin = true →
     NextWith (exec (.resetRelease p) s) fun t =>
       t.resetPin = false ∧ t.cp = p.toNat * 65536 ∧ t.tsc = 0 ∧
         { t with resetPin := s.resetPin, cpsel := s.cpsel, tsc := s.tsc } = s) ∧
   (∀ s : State, exec .linkResetRelease s = .next { s with linkResetPin := false }))

/-- Every command taken from the ring leaves the consumer index one further, modulo 64, and ends with the status
block's write, followed by the fetch of the next entry exactly when the index differs from the low bits of the
producer copy (R174, R180). -/
def Obligations.TakenCommandsAdvanceTheRing : Prop :=
  ∀ (c : Instr) (s t : State), takenFromRing c s → exec c s = .next t →
    t.consumer = (s.consumer + 1) % 64 ∧ t.prodCopy = s.prodCopy ∧ t.cfgPending = false ∧
    (t.fetching = true ↔ t.consumer ≠ t.prodCopy.toNat % 64) ∧
    ∃ before, t.portOut = before ++ [partWrite (s.cp + 0x80) t.statusBytes] ++
      if t.fetching then [partRead (s.cp + 0x800 + 32 * t.consumer) 32] else []

/-- The 32 bytes of the status block, by the offsets of Table 10-6. Every notice record has 64 bytes: kind, ring
slot, letter, unit, code and time at their offsets, then the detail, then zeros (Tables 10-7 and 10-8; the zeros are
the model's reading, log 14). -/
def Obligations.ReportRecordLayouts : Prop :=
  (∀ s : State, s.consumer < 64 → s.prod < 4096 → s.freeBins.length ≤ 65536 → s.freeSegs ≤ 16384 →
     s.freeCues ≤ 2048 → s.lastSlot < 64 →
     s.statusBytes.length = 32 ∧
     fieldAt s.statusBytes 0 1 = s.part.code ∧
     fieldAt s.statusBytes 1 1 = (if s.overflow then 1 else 0) ∧
     fieldAt s.statusBytes 2 1 = s.lastResult.code ∧
     fieldAt s.statusBytes 3 1 = s.lastSlot ∧
     fieldAt s.statusBytes 4 2 = s.consumer ∧
     fieldAt s.statusBytes 6 2 = s.prod ∧
     fieldAt s.statusBytes 8 4 = s.freeBins.length ∧
     fieldAt s.statusBytes 12 2 = s.freeSegs ∧
     fieldAt s.statusBytes 14 2 = s.freeCues ∧
     fieldAt s.statusBytes 16 6 = s.tsc.toNat ∧
     ∀ k, 22 ≤ k → k < 32 → fieldAt s.statusBytes k 1 = 0) ∧
  (∀ (n : Notice) (now : Stamp), n.detail.length ≤ 52 → n.ringSlot < 64 → n.code < 256 →
     (∀ l, n.letter = some l → l < 65536) → (∀ k, n.unit = some k → k < 256) →
     let b := n.bytes now
     b.length = 64 ∧ fieldAt b 0 1 = n.kind.code ∧ fieldAt b 1 1 = n.ringSlot ∧
     fieldAt b 2 2 = n.letter.getD 0xFFFF ∧ fieldAt b 4 1 = n.unit.getD 0xFF ∧ fieldAt b 5 1 = n.code ∧
     fieldAt b 6 6 = now.toNat ∧ bytesAt b 12 n.detail.length = n.detail ∧
     ∀ k, 12 + n.detail.length ≤ k → k < 64 → b.getD k 0 = 0)

/-- A known command taken outside RUNNING changes nothing but what every taken command changes: BUSY while
RESETTING, NOT_CONFIGURED while UNCONFIGURED (R175). A record with an unknown code, and a fetch answered with an
error, is answered BAD_COMMAND in every part state (R174, R175); that its COMMAND_DONE names no letter and no unit is the
model's reading (log 10). CONFIGURE taken in UNCONFIGURED reads the 64 bytes
of the configuration block and waits; taken in another part state it is refused (R175, R176). -/
def Obligations.CommandsJudgedByPartState : Prop :=
  (∀ (c : Instr) (s : State), knownCommand c = true → c ≠ .configure → s.fetching = true →
     (s.part = .resetting → NextWith (exec c s)
       (Answered (commandSubject c).1 (commandSubject c).2 .busy [] s s)) ∧
     (s.part = .unconfigured → NextWith (exec c s)
       (Answered (commandSubject c).1 (commandSubject c).2 .notConfigured [] s s))) ∧
  (∀ (k : Option Byte) (s : State), (∀ c, k = some c → c = 0 ∨ 16 < c.toNat) → s.fetching = true →
     NextWith (exec (.badCommand k) s) (Answered none none .badCommand [] s s)) ∧
  (∀ s : State, s.fetching = true →
     (s.part = .unconfigured → NextWith (exec .configure s) fun t =>
       t.cfgPending = true ∧ t.fetching = false ∧ t.portOut = s.portOut ++ [partRead s.cp 64] ∧
         { t with cfgPending := s.cfgPending, fetching := s.fetching, portOut := s.portOut } = s) ∧
     (s.part = .running → NextWith (exec .configure s) (Answered none none .wrongState [] s s)) ∧
     (s.part = .resetting → NextWith (exec .configure s) (Answered none none .busy [] s s)))

/-- The checks of R176 on a configuration, said of addresses: B and the ring size in range, the four areas without a
common byte, and the two movable areas within the address space. The answer to CONFIGURE's read: a failed read or a
block that fails a check is refused and changes no state; a block that passes is kept, builds the bin table, sets up the
notice ring and makes the part RUNNING, and its COMMAND_DONE is the first notice of the ring (R1, R44, R176). -/
def Obligations.ConfigurationChecksAndAnswer : Prop :=
  (∀ (c : Cfg) (cp : Nat),
    c.ok cp = true ↔
      (1 ≤ c.bins ∧ c.bins ≤ 65536) ∧
      ((∃ k, c.ringSize = 2 ^ k) ∧ 64 ≤ c.ringSize ∧ c.ringSize ≤ 4096) ∧
      (∀ a, ¬(inArea (c.apTop * 2 ^ 38) (2 ^ 38) a ∧ inArea cp 4096 a)) ∧
      (∀ a, ¬(inArea c.storeBase (c.bins * 2560) a ∧ inArea c.ringBase (c.ringSize * 64) a)) ∧
      (∀ a, ¬(inArea c.storeBase (c.bins * 2560) a ∧ inArea cp 4096 a)) ∧
      (∀ a, ¬(inArea c.ringBase (c.ringSize * 64) a ∧ inArea cp 4096 a)) ∧
      (∀ a, ¬(inArea c.storeBase (c.bins * 2560) a ∧ inArea (c.apTop * 2 ^ 38) (2 ^ 38) a)) ∧
      (∀ a, ¬(inArea c.ringBase (c.ringSize * 64) a ∧ inArea (c.apTop * 2 ^ 38) (2 ^ 38) a)) ∧
      c.storeBase + c.bins * 2560 ≤ 2 ^ 48 ∧ c.ringBase + c.ringSize * 64 ≤ 2 ^ 48) ∧
  (∀ (code : MemCode) (data : List Byte) (s : State), s.cfgPending = true → s.part = .unconfigured →
    answerWf 64 code data = true →
    (code ≠ .okay ∨ (Cfg.ofBlock data).ok s.cp = false →
      NextWith (exec (.configurationReadAnswer code data) s) (Answered none none .wrongState [] s s)) ∧
    (code = .okay ∧ (Cfg.ofBlock data).ok s.cp = true →
      NextWith (exec (.configurationReadAnswer code data) s) fun t =>
        let c := Cfg.ofBlock data
        let first := s.consCopy.toNat % c.ringSize
        t.cfg = some c ∧ t.part = .running ∧ t.binCount = c.bins ∧ (∀ b, t.bin b = Bin.fresh) ∧
        t.freeBins = List.range c.bins ∧
        t.prod = (first + 1) % c.ringSize ∧ t.overflow = false ∧ t.lost = 0 ∧
        t.lastResult = .done ∧ t.lastSlot = s.consumer ∧ t.consumer = (s.consumer + 1) % 64 ∧
        t.body = { s with cfg := some c, part := .running, binCount := c.bins, bins := []
                          freeBins := List.range c.bins }.body ∧
        ∃ later, t.portOut = s.portOut ++
          partWrite (c.ringBase + 64 * first) ((commandDone s.consumer none none .done []).bytes s.tsc) :: later))

/-- POOL_RESET taken in RUNNING: in one change every block clears itself, the held transactions are answered
REFUSED, and everything else is kept (R17, R40, R62, R108, R123, R147, R156, R177). The notices of POOL_RESET: first
an ACCESS_REFUSED, reason RESETTING, for each held transaction in the order of acceptance, then a COMMAND_DONE with
BUSY for each long letter command in the order taken (R17, R40, R177). The model's readings: the result of POOL_RESET is
recorded first (log 15), the ACCESS_REFUSED notices name no channel (log 16), and the blocks are clear before the notices,
so the status blocks written with them show the cleared counts (log 30). -/
def Obligations.PoolResetClears : Prop :=
  (∀ (o : Byte) (s : State), s.takes → TablesOk s →
     NextWith (exec (.poolReset o) s) fun t =>
       t.part = .resetting ∧ t.poolRun = some { keep := o.getLsbD 0, slot := s.consumer } ∧
       t.lastResult = .done ∧ t.lastSlot = s.consumer ∧ t.consumer = (s.consumer + 1) % 64 ∧
       (∀ n, t.letter n = Letter.free) ∧ t.longs = [] ∧ t.freeSegs = 16384 ∧ t.freeCues = 2048 ∧
       (∀ b, t.bin b = Bin.fresh) ∧ t.freeBins = List.range s.binCount ∧
       (∀ c, t.channel c = Channel.initial) ∧ (∀ c, t.cursor c = Cursor.initial) ∧
       t.drq = [] ∧ t.room = [] ∧ t.pressedPtr = 31 ∧ t.unpressedPtr = 31 ∧
       t.cache.map (·.num) = List.range 32 ∧
       (∀ e ∈ t.cache, e.st = .empty ∨ ∃ l f b sl, e.st = .stale l f b sl []) ∧
       (∀ n, t.entry n = (s.entry n).map fun e => if e.st.held then e.refuse else e) ∧
       t.engine0 = s.engine0 ∧ t.engine1 = s.engine1 ∧ t.raw = s.raw ∧ t.cfg = s.cfg ∧ t.binCount = s.binCount ∧
       t.tsc = s.tsc ∧ t.prodCopy = s.prodCopy ∧ t.consCopy = s.consCopy ∧ t.nextRank = s.nextRank ∧
       t.linkOut = s.linkOut) ∧
  (∀ (o : Byte) (s t : State), s.takes → TablesOk s → exec (.poolReset o) s = .next t →
     ∃ (held : List (Nat × Entry)) (later : List PortReq),
       held.Perm (s.entries.filter fun p => p.2.st.held) ∧ held.Pairwise (fun p q => p.2.rank ≤ q.2.rank) ∧
       t.portOut =
         (postAll (held.map (fun p => accessRefused .resetting p.2 none) ++
             s.longs.map fun c => commandDone c.slot (some c.letter) none .busy [])
           (setLast .done (clearBlocks (o.getLsbD 0) s))).portOut ++ later)

/-- The end of a pool reset, which waits for both engines and the raw path: with keep the part is RUNNING again with
all that it kept; without keep it is UNCONFIGURED, with the interrupt line low and the status block written once
more (R177). While it waits POOL_RESET_END leaves the state unchanged (the model's choice, log 1). -/
def Obligations.PoolResetEnds : Prop :=
  ∀ (r : PoolRun) (s : State), s.poolRun = some r → s.part = .resetting →
    (s.engine0 = .free ∧ s.engine1 = .free ∧ s.raw = [] →
      NextWith (exec .poolResetEnd s) fun t =>
        (s.canPost → Announces (commandDone r.slot none none .done []) s t) ∧
        t.poolRun = none ∧ t.consumer = s.consumer ∧ t.lastResult = s.lastResult ∧
        (r.keep = true → t.part = .running ∧ t.body = { s with part := .running, poolRun := none }.body) ∧
        (r.keep = false → t.part = .unconfigured ∧ t.irq = false ∧
          (∃ before, t.portOut = before ++ [partWrite (s.cp + 0x80) t.statusBytes]) ∧
          t.body = { s with part := .unconfigured, poolRun := none, cfg := none, binCount := 0, bins := []
                            freeBins := [] }.body)) ∧
    (s.engine0 ≠ .free ∨ s.engine1 ≠ .free ∨ s.raw ≠ [] → exec .poolResetEnd s = .next s)

/-- The assertion of the link-reset input: forwarded entries and slot reads are taken out of the link's ordering,
every other entry is freed, channels in RUN end their run without padding, and no channel or frame keeps a need of a
freed entry (R19, R107, R122). With the room waiting list empty nothing is owed to it (log 20). -/
def Obligations.LinkResetActs : Prop :=
  ∀ s : State, TablesOk s → s.linkResetPin = false →
    NextWith (exec .linkReset s) fun t =>
      t.linkResetPin = true ∧
      (∀ n, t.entry n = (s.entry n).bind fun e =>
        if e.st = .forwarded ∨ e.st = .waitingMemory then some { e with reserved := true } else none) ∧
      (∀ c, (s.channel c).state ≠ .run → t.channel c = { s.channel c with waiting := [] }) ∧
      (∀ c, (s.channel c).state = .run →
        (t.channel c).state = .attached ∧ (t.channel c).runKind = none ∧ (t.channel c).nextIdx = none ∧
        (t.channel c).waiting = [] ∧ (t.channel c).fill = [] ∧ (t.channel c).fillBuffer = none ∧
        (∀ i, ((s.channel c).buffer i).isFilling = false → (t.channel c).buffer i = (s.channel c).buffer i) ∧
        { t.channel c with state := .idle, runKind := none, nextIdx := none, waiting := [], buf0 := .free, buf1 := .free } =
          { s.channel c with state := .idle, runKind := none, nextIdx := none, waiting := [], buf0 := .free
                             buf1 := .free }) ∧
      (t.drq = s.drq.map fun r => { r with waiters := [] }) ∧ t.room = [] ∧ t.roomDue = 0 ∧
      t.cache = s.cache.map CacheEntry.dropAll ∧
      { t with linkResetPin := s.linkResetPin, entries := s.entries, channels := s.channels, cache := s.cache
               drq := s.drq, room := s.room, roomDue := s.roomDue } = s

/-! ### Transactions -/

/-- A transaction none of whose bytes lies in a claimed span is held in FORWARDED and sent on the memory port as it
came, with its entry's number as its ID (R5, R8, R12). One whose first byte lies in a span of views 5-7, or of view 4
with a number above 31, is answered UNMAPPED at once with zero data and without a notice (R5, R7). The refusals of the
decoder, in the order of Table 1-3, on a transaction whose first byte is claimed and mapped: two spans, RESETTING, a
write of a read-only view, a strobe clear (R5, R7). A transaction that begins in an unclaimed span and ends in a claimed
one is refused for its two spans, and its notice names the view and number of the claimed one (R5 step 3, R7). That the
decoder works on the configuration copy, in every part state, is the model's reading (log 25), as are the subject fields
of a notice for views 5-7 (log 17). -/
def Obligations.TransactionsAreClassified : Prop :=
  (∀ (n : Fin 32) (t : Txn) (s : State), t.wf = true → linkOpen n s →
    (∀ j < t.len, claimed s.cfg (spanOf (t.byteAddr j)) = false) →
    NextWith (exec (.transactionAccept n t) s) fun u =>
      (∃ e, Held n t e s u ∧ e.st = .forwarded ∧ e.outcome = .passThrough ∧ e.response = none ∧
        e.strobes = t.strobes ∧ (t.write = true → e.buf = t.data)) ∧
      u.portOut = s.portOut ++
        [{ entry := some n, write := t.write, addr := t.addr, len := t.len, strobes := t.strobes, data := t.data }] ∧
      { u with entries := s.entries, nextRank := s.nextRank, portOut := s.portOut } = s) ∧
  (∀ (n : Fin 32) (t : Txn) (s : State), t.wf = true → linkOpen n s → claimed s.cfg t.span = true →
     5 ≤ spanView t.span ∨ (spanView t.span = 4 ∧ 32 ≤ spanNum t.span) →
     NextWith (exec (.transactionAccept n t) s) fun u =>
       ReadyAtOnce n t .unmapped .unmapped (zeros t.len) s u ∧
         { u with entries := s.entries, nextRank := s.nextRank } = s) ∧
  (∀ (n : Fin 32) (t : Txn) (s : State), t.wf = true → linkOpen n s → claimed s.cfg t.span = true →
     spanView t.span < 4 ∨ (spanView t.span = 4 ∧ spanNum t.span < 32) →
     (spanOf (t.byteAddr (t.len - 1)) ≠ t.span → NextWith (exec (.transactionAccept n t) s)
       (RefusedAtOnce n t (spanView t.span) (spanNum t.span) none .crossesSpan s)) ∧
     (spanOf (t.byteAddr (t.len - 1)) = t.span →
       (s.part = .resetting → NextWith (exec (.transactionAccept n t) s)
         (RefusedAtOnce n t (spanView t.span) (spanNum t.span) none .resetting s)) ∧
       (s.part ≠ .resetting → t.write = true →
         (spanView t.span = 2 ∨ spanView t.span = 4 → NextWith (exec (.transactionAccept n t) s)
           (RefusedAtOnce n t (spanView t.span) (spanNum t.span) none .readOnlyView s)) ∧
         (spanView t.span ≠ 2 → spanView t.span ≠ 4 → t.strobes.contains false = true →
           NextWith (exec (.transactionAccept n t) s)
             (RefusedAtOnce n t (spanView t.span) (spanNum t.span) none .misaligned s))))) ∧
  (∀ (n : Fin 32) (t : Txn) (s : State), t.wf = true → linkOpen n s → claimed s.cfg t.span = false →
     let b := spanOf (t.byteAddr (t.len - 1))
     claimed s.cfg b = true → NextWith (exec (.transactionAccept n t) s)
       (RefusedAtOnce n t (spanView b) (spanNum b) none .crossesSpan s))

/-- The refusals of the owners at hand-over: an IDLE cursor, a letter in FREE or DISCARDING, a write to a letter
that is not recording, a FLUSHING channel, a PCM16 write with an odd offset or length, a RAW write that is not one
whole unit (R33, R87, R133, R168). -/
def Obligations.RefusedAtHandOver : Prop :=
  ∀ (n : Fin 32) (t : Txn) (view num : Nat) (s : State), t.wf = true → linkOpen n s → Serves t view num s →
    let refused := fun (chan : Option Nat) (r : Reason) =>
      NextWith (exec (.transactionAccept n t) s) (RefusedAtOnce n t view num chan r s)
    let l := s.letter num
    (view = 4 → (s.cursor num).letter = none → refused none .cursorIdle) ∧
    (view ≠ 4 →
      (l.state = .free ∨ l.state = .discarding → refused none .letterFree) ∧
      (t.write = true →
        (l.state = .ready ∨ l.state = .filed → refused none .notRecording) ∧
        (∀ c, l.state = .recording → l.channel = some c →
          ((s.channel c).state = .flushing → refused (some c) .channelFlushing) ∧
          ((s.channel c).state ≠ .flushing →
            (view = 0 → t.offset % 2 = 1 ∨ t.len % 2 = 1 → refused (some c) .misaligned) ∧
            (view = 3 → t.offset % 128 ≠ 0 ∨ t.len ≠ 128 → refused (some c) .misaligned)))))

/-- The answer to a forwarded transaction gives its entry the memory's code and a read's data and makes it READY, or
frees an entry that a link reset reserved; an answer other than OKAY, or to a read, touches nothing else (R12, R19,
R173). An OKAY answer to a forwarded write replaces, in each watched word, the bytes the write covered with their
strobe set, and no other byte of a copy (R173). The two index-write commands are this answer to a write that covers
their word (log 8). A whole-word write of an index: the command producer index starts the fetch at the consumer
index when they differ in their low 6 bits; the notice consumer index counts the loud marks anew, and the line is
low when it equals P (R173, R174, R179). -/
def Obligations.MemoryResponsesAndWatchedWords : Prop :=
  (∀ (n : Fin 32) (code : MemCode) (data : List Byte) (e : Entry) (s : State),
     s.entry n = some e → e.st = .forwarded → (e.write = false → data.length = e.len) →
     NextWith (exec (.memoryResponse n code data) s) fun u =>
       (e.reserved = true → u.entry n = none) ∧
       (e.reserved = false → u.entry n =
         some { e with st := .ready, response := some (.memory code), buf := if e.write then [] else data }) ∧
       (∀ m, m ≠ n → u.entry m = s.entry m) ∧
       (e.write = false ∨ code ≠ .okay → { u with entries := s.entries } = s) ∧
       { u with entries := s.entries, prodCopy := s.prodCopy, consCopy := s.consCopy, fetching := s.fetching
                portOut := s.portOut } = s) ∧
  (∀ (n : Fin 32) (data : List Byte) (e : Entry) (s : State), s.entry n = some e → e.st = .forwarded →
     e.write = true → e.len ≤ 256 →
     let byteOf := fun (w : BitVec 32) (j : Nat) => w.toNat / 256 ^ j % 256
     let puts := fun (a k : Nat) => k < e.len ∧ (e.addr.toNat + k) % 2 ^ 48 = a ∧ e.strobes.getD k false = true
     (NextWith (exec (.memoryResponse n .okay data) s) fun u =>
       ∀ j < 4,
         (∀ k, puts (s.cp + 0x40 + j) k → byteOf u.prodCopy j = (e.buf.getD k 0).toNat) ∧
         ((¬∃ k, puts (s.cp + 0x40 + j) k) → byteOf u.prodCopy j = byteOf s.prodCopy j) ∧
         (∀ k, puts (s.cp + 0x44 + j) k → byteOf u.consCopy j = (e.buf.getD k 0).toNat) ∧
         ((¬∃ k, puts (s.cp + 0x44 + j) k) → byteOf u.consCopy j = byteOf s.consCopy j)) ∧
     ((∃ j k, j < 4 ∧ puts (s.cp + 0x40 + j) k) →
       exec (.commandProducerIndexWrite n) s = exec (.memoryResponse n .okay data) s) ∧
     ((∃ j k, j < 4 ∧ puts (s.cp + 0x44 + j) k) →
       exec (.noticeConsumerIndexWrite n) s = exec (.memoryResponse n .okay data) s)) ∧
  (∀ (n : Fin 32) (b0 b1 b2 b3 : Byte) (e : Entry) (s : State), s.entry n = some e → e.st = .forwarded →
     e.write = true → e.len = 4 → e.strobes = [true, true, true, true] → e.buf = [b0, b1, b2, b3] →
     let word : BitVec 32 := b3 ++ b2 ++ b1 ++ b0
     (e.addr.toNat = s.cp + 0x40 → NextWith (exec (.commandProducerIndexWrite n) s) fun u =>
       u.prodCopy = word ∧ u.consCopy = s.consCopy ∧ u.consumer = s.consumer ∧
       (s.fetching = false → s.cfgPending = false →
         (s.consumer ≠ word.toNat % 64 → u.fetching = true ∧
           u.portOut = s.portOut ++ [partRead (s.cp + 0x800 + 32 * s.consumer) 32]) ∧
         (s.consumer = word.toNat % 64 → u.fetching = false ∧ u.portOut = s.portOut))) ∧
     (e.addr.toNat = s.cp + 0x44 → NextWith (exec (.noticeConsumerIndexWrite n) s) fun u =>
       u.consCopy = word ∧ u.prodCopy = s.prodCopy ∧ u.loud = s.loud ∧ u.prod = s.prod ∧
       (s.prod < s.ringSize → word.toNat % s.ringSize = s.prod → u.irq = false)))

/-- The host bridge takes a READY response only when no older entry of its link ID remains in the link's ordering; its
entry is then free and nothing else changes (R14). The link carries OK as OKAY, REFUSED as SLVERR, UNMAPPED as DECERR and
a forwarded transaction's response as the code that memory gave (R9). A RESPONSE_TAKEN of an entry that may not be
returned leaves the state unchanged (the model's choice, log 1). -/
def Obligations.ResponsesInOrder : Prop :=
  ∀ (n : Fin 32) (e : Entry) (s : State), TablesOk s → s.entry n = some e →
    s.resetPin = false → s.linkResetPin = false →
    let first := e.st = .ready ∧
      ∀ m x, s.entry m = some x → x.id = e.id → x.reserved = false → e.rank ≤ x.rank
    let code := match e.response with
      | none => none
      | some .ok => some .okay
      | some .refused => some (.other .slverr)
      | some .unmapped => some (.other .decerr)
      | some (.memory c) => some c
    (first → NextWith (exec (.responseTaken n) s) fun u =>
      u.entry n = none ∧ (∀ m, m ≠ n → u.entry m = s.entry m) ∧
      u.linkOut = s.linkOut ++ [{ id := e.id, write := e.write, code := code, data := e.buf }] ∧
      { u with entries := s.entries, linkOut := s.linkOut } = s) ∧
    (¬first → exec (.responseTaken n) s = .next s)

/-- A held entry whose hold limit has passed is answered REFUSED with zero data and announced; a read's needs leave
wherever they wait, and a write leaves its channel's list. An entry that is not held, or whose hold has not passed,
stays (R13, R15, R93, R122, R181), and HOLD_EXPIRY of it leaves the state unchanged (the model's choice, log 1). That
HOLD_EXPIRED comes before the notices of a write that is then considered is the model's choice (log 42). The HOLD_EXPIRED
notice names the view, the direction, the link ID, the waiting state and the subject of the transaction, with
the channel of a write (R15, Table 10-8). -/
def Obligations.HoldExpiryRefuses : Prop :=
  (∀ (n : Fin 32) (e : Entry) (s : State), s.entry n = some e →
     let waits := e.st = .waitingSpace ∨ e.st = .waitingRun ∨ e.st = .waitingFrames
     let expired := s.holdLimit ≠ 0 ∧ s.holdLimit ≤ (s.tsc.toNat + 2 ^ 48 - e.holdStart.toNat) % 2 ^ 48
     (waits → expired → e.write = false → NextWith (exec (.holdExpiry n) s) fun u =>
       u.entry n = some e.refuse ∧ (∀ m, m ≠ n → u.entry m = s.entry m) ∧
       (s.canPost → Announces (holdExpired e none) s u) ∧
       u.room = s.room.filter (fun w => decide (w.entry ≠ (n : Nat))) ∧
       u.drq = s.drq.map (fun r => { r with waiters := r.waiters.filter fun w => decide (w.entry ≠ (n : Nat)) }) ∧
       u.cache = s.cache.map (CacheEntry.dropNeeds n) ∧
       { u with entries := s.entries, room := s.room, drq := s.drq, cache := s.cache }.unreported = s.unreported) ∧
     (∀ c, waits → expired → e.write = true → (s.letter e.num).channel = some c → NextWith (exec (.holdExpiry n) s) fun u =>
       u.entry n = some e.refuse ∧ (s.canPost → Announces (holdExpired e (some c)) s u) ∧
       (n : Nat) ∉ (u.channel c).waiting ∧ u.writeMask = s.writeMask ∧
       ((s.channel c).waiting = [(n : Nat)] ∨ (s.channel c).waiting.head? ≠ some (n : Nat) →
         u.channel c = { s.channel c with waiting := (s.channel c).waiting.filter fun m => decide (m ≠ (n : Nat)) } ∧
         (∀ d, d ≠ c → u.channel d = s.channel d) ∧ (∀ m, m ≠ n → u.entry m = s.entry m) ∧
         { u with entries := s.entries, channels := s.channels }.unreported = s.unreported)) ∧
     (¬waits ∨ ¬expired → exec (.holdExpiry n) s = .next s)) ∧
  (∀ (e : Entry) (view num : Nat) (now : Stamp), e.subject = some { view := view, num := num } → view ≤ 4 → num < 1024 →
     e.st = .waitingSpace ∨ e.st = .waitingRun ∨ e.st = .waitingFrames →
     ∀ chan : Option Nat, (∀ c, chan = some c → c < 32) → (view = 4 → num < 32) →
     let b := (holdExpired e chan).bytes now
     b.length = 64 ∧ fieldAt b 0 1 = 6 ∧
     fieldAt b 2 2 = (if view < 4 then num else 0xFFFF) ∧
     fieldAt b 4 1 = (match chan with
       | some c => c
       | none => if view = 4 then num else 0xFF) ∧
     fieldAt b 6 6 = now.toNat ∧
     fieldAt b 0x0C 1 = view ∧ fieldAt b 0x0D 1 = (if e.write then 1 else 0) ∧ fieldAt b 0x0E 1 = e.id.toNat ∧
     fieldAt b 0x0F 1 = (if e.st = .waitingSpace then 1 else if e.st = .waitingRun then 2 else 3))

/-! ### Reads -/

/-- A PCM read all of whose frames are VALID in the cache is answered at once with the bytes of their samples, and
its only other effect is that each entry it copied from moves to the most-recent end, in frame order (R114, R119 to
R121). -/
def Obligations.PcmReadHitsAtOnce : Prop :=
  ∀ (n : Fin 32) (t : Txn) (view num : Nat) (s : State), t.wf = true → linkOpen n s → Serves t view num s →
    t.write = false → view = 0 ∨ view = 1 →
    (s.letter num).serves →
    cacheNumbered s →
    (∀ f ∈ pcmFrames view t.offset t.len, cachedSamples s num f ≠ none) →
    NextWith (exec (.transactionAccept n t) s) fun u =>
      (∃ e, Held n t e s u ∧ e.st = .ready ∧ e.outcome = .served ∧ e.response = some .ok ∧ e.buf.length = t.len ∧
        ∀ j < t.len, ∀ xs, cachedSamples s num (pcmSample view (t.offset + j) / 128) = some xs →
          e.buf.getD j 0 = pcmByte view (t.offset + j) (sampleAt xs (pcmSample view (t.offset + j) % 128))) ∧
      (∃ hits : List CacheEntry, (pcmFrames view t.offset t.len).map (fun f => s.cache.find? (CacheEntry.validFor num f)) = hits.map some ∧
        u.cache = (s.cache.filter fun e => !hits.contains e) ++ hits) ∧
      { u with entries := s.entries, nextRank := s.nextRank, cache := s.cache } = s

/-- A PCM read of one frame that is not VALID waits: its need joins a FILLING entry, else a request for the frame,
else makes a request in the order of R111 while the queue has room, else joins the room waiting list (R111, R114,
R119). A PCM read of several frames of which one is not VALID waits in WAITING_FRAMES for exactly the frames that are not,
with the bytes of the others already written; its needs are looked up one by one in ascending frame order (R114, R119 to
R121). One lookup: a need whose frame is VALID is copied and the entry moves to the most-recent end; any other need goes
where the first sentence says, and nothing else changes (R113, R114). A list that was empty is owed no service for
departures before it (log 20). -/
def Obligations.PcmReadMissWaits : Prop :=
  (∀ (n : Fin 32) (t : Txn) (view num f : Nat) (s : State), t.wf = true → linkOpen n s → Serves t view num s →
     t.write = false → view = 0 ∨ view = 1 → (s.letter num).serves →
     pcmFrames view t.offset t.len = [f] → cachedSamples s num f = none →
     NextWith (exec (.transactionAccept n t) s) fun u =>
       (∃ e, Held n t e s u ∧ e.st = .waitingFrames ∧ e.needs = [f] ∧ e.letter = some num ∧ e.response = none) ∧
       NeedWaits { entry := n, letter := num, frame := f } s u ∧
       { u with entries := s.entries, nextRank := s.nextRank, cache := s.cache, drq := s.drq, room := s.room
                roomDue := s.roomDue } = s) ∧
  (∀ (n : Fin 32) (t : Txn) (view num : Nat) (s : State), t.wf = true → linkOpen n s → Serves t view num s →
     t.write = false → view = 0 ∨ view = 1 → (s.letter num).serves → cacheNumbered s →
     let frames := pcmFrames view t.offset t.len
     (∃ f ∈ frames, cachedSamples s num f = none) →
     NextWith (exec (.transactionAccept n t) s) fun u =>
       frames.Pairwise (· < ·) ∧
       (∃ e, Held n t e s u ∧ e.st = .waitingFrames ∧ e.outcome = .served ∧ e.letter = some num ∧ e.response = none ∧
         e.needs = frames.filter (fun f => decide (cachedSamples s num f = none)) ∧ e.buf.length = t.len ∧
         ∀ j < t.len, ∀ xs, cachedSamples s num (pcmSample view (t.offset + j) / 128) = some xs →
           e.buf.getD j 0 = pcmByte view (t.offset + j) (sampleAt xs (pcmSample view (t.offset + j) % 128))) ∧
       (∃ e : Entry, e.needs = frames ∧ e.st = .waitingFrames ∧
         u = (frames.map fun f => ({ entry := n, letter := num, frame := f } : Need)).foldl lookupNeed
           (({ s with nextRank := s.nextRank + 1 } : State).setEntry n e)) ∧
       { u with entries := s.entries, nextRank := s.nextRank, cache := s.cache, drq := s.drq, room := s.room
                roomDue := s.roomDue } = s) ∧
  (∀ (w : Need) (s : State),
     (∀ x, s.cache.find? (CacheEntry.validFor w.letter w.frame) = some x →
       lookupNeed s w =
         copyNeed x.samples { s with cache := (s.cache.filter fun e => decide (e.num ≠ x.num)) ++ [x] } w) ∧
     (cachedSamples s w.letter w.frame = none →
       NeedWaits w s (lookupNeed s w) ∧
       { lookupNeed s w with cache := s.cache, drq := s.drq, room := s.room, roomDue := s.roomDue } = s))

/-- Positions of a cursor's outputs: the formula of R131, its whole and fraction as the sample index and the
fraction, no position below the base, an order that follows the output index, and the take of a read as the moment
that fixes them. Outputs within the letter: the interpolation of R132, the sample itself at fraction 0 and at the
letter's last sample, always between the two samples it uses. -/
def Obligations.CursorPositionsAndInterpolation : Prop :=
  (∀ (n : Fin 32) (t : Txn) (num letter : Nat) (s u : State), t.wf = true → linkOpen n s → Serves t 4 num s →
    (s.cursor num).letter = some letter → exec (.transactionAccept n t) s = .next u →
    ∃ e, Held n t e s u ∧
      e.plan = (upTo (t.offset / 2) ((t.offset + t.len - 1) / 2)).map
        ((s.cursor num).outPos (s.letter letter).length)) ∧
  (∀ (k : Cursor) (n o : Nat),
     (k.base ≤ o → o < k.base + k.tempDur → k.position o = k.origin + (o - k.base) * k.tempRate) ∧
     (k.base + k.tempDur ≤ o →
       k.position o = k.origin + k.tempDur * k.tempRate + (o - k.base - k.tempDur) * k.rate) ∧
     (o < k.base → k.outPos n o = .beforeBase) ∧
     (∀ i f last, k.outPos n o = .at i f last → i = k.position o / 4096 ∧ f = k.position o % 4096 ∧ f ≤ 4095) ∧
     (2048 ≤ k.rate → 2048 ≤ k.tempRate → ∀ p, k.base ≤ o → o < p → k.position o < k.position p)) ∧
  (∀ (copied : List (Nat × List Int)) (i f : Nat) (x y : Int), f ≤ 4095 → copiedSample copied i = some x →
     (∀ last, f = 0 ∨ last = true → outSample copied (.at i f last) = some x) ∧
     (0 < f → copiedSample copied (i + 1) = some y →
       outSample copied (.at i f false) = some (x + Int.fdiv ((y - x) * f + 2048) 4096)) ∧
     min x y ≤ x + Int.fdiv ((y - x) * f + 2048) 4096 ∧ x + Int.fdiv ((y - x) * f + 2048) 4096 ≤ max x y)

/-- The take of a cursor read moves its cursor as R135, R136 and R138 give, whatever becomes of the read: the last
read index, the end-notified mark, the checked frame and the target; no other cursor and nothing outside the read
service changes. A cursor read that reaches its target announces it first; the first read beyond the end since the
last rebase announces the end, after the target notice (R136, R138): a read that does both posts the target notice first
and END_REACHED second, at the next slot of the ring. -/
def Obligations.CursorReadMovesItsCursor : Prop :=
  (∀ (n : Fin 32) (t : Txn) (num letter : Nat) (s : State), t.wf = true → linkOpen n s → Serves t 4 num s →
     (s.cursor num).letter = some letter →
     let k := s.cursor num
     let len := (s.letter letter).length
     let first := t.offset / 2
     let last := (t.offset + t.len - 1) / 2
     NextWith (exec (.transactionAccept n t) s) fun u =>
       let k' := u.cursor num
       k'.lastRead = some (max (k.lastRead.getD 0) last) ∧
       (k'.endMark = true ↔ k.endMark = true ∨ ∃ o, k.beyond len first last o) ∧
       ((¬∃ o, k.inside len first last o) → k'.checked = k.checked ∧ k'.target = k.target) ∧
       (∀ o, k.inside len first last o → (∀ p, k.inside len first last p → p ≤ o) →
         k'.checked = max k.checked ((k.position o / 4096 / 128 : Nat) : Int) ∧
         k'.targetIsNext (s.letter letter).cues) ∧
       { k' with lastRead := k.lastRead, endMark := k.endMark, checked := k.checked, target := k.target } = k ∧
       (∀ c, c ≠ num → u.cursor c = s.cursor c) ∧
       { u with cursors := s.cursors, nextRank := s.nextRank }.readMask = s.readMask) ∧
  (∀ (n : Fin 32) (t : Txn) (num letter : Nat) (s u : State), t.wf = true → linkOpen n s → Serves t 4 num s →
     (s.cursor num).letter = some letter → exec (.transactionAccept n t) s = .next u →
     let k := s.cursor num
     let l := s.letter letter
     let first := t.offset / 2
     let last := (t.offset + t.len - 1) / 2
     let ends := fun e : Nat => k.endMark = false ∧ k.beyond l.length first last e ∧
       ∀ p, k.beyond l.length first last p → e ≤ p
     let reaches := fun g f : Nat => k.target = some g ∧ g ≤ f ∧ ∃ o, k.inside l.length first last o ∧
       (∀ p, k.inside l.length first last p → p ≤ o) ∧ f = k.position o / 4096 / 128
     (∀ g f, reaches g f → s.canPost →
       (∀ q r, k.follow = true → l.cues.filter (fun c => decide (c.pos = g)) = q :: r →
         Announces (cueReached letter num g f q (r.length + 1)) s u) ∧
       (k.follow = false ∨ (∀ c ∈ l.cues, c.pos ≠ g) → Announces (progress letter num g f) s u)) ∧
     (∀ e g f, ends e → reaches g f → s.canPost →
       let s' : State := { s with prod := (s.prod + 1) % s.ringSize }
       s'.canPost → ∃ target status later,
         u.portOut = s.portOut ++ target :: status :: s'.noticeWrite (endReached letter num e l.length) :: later ∧
         status.addr = BitVec.ofNat 48 (s.cp + 0x80)) ∧
     (∀ e, ends e → (¬∃ g f, reaches g f) → s.canPost → Announces (endReached letter num e l.length) s u) ∧
     ((¬∃ e, ends e) → (¬∃ g f, reaches g f) → u.prod = s.prod ∧ u.portOut = s.portOut))

/-- A cursor read whose every needed frame is VALID in the cache is answered at once: silence before the base and
beyond the end, and the interpolation of the cached samples in the letter (R130 to R134). A cursor read that uses a frame
that is not VALID waits in WAITING_FRAMES for exactly the frames that its outputs use and that are not VALID; the outputs
whose samples are all VALID, and the silence, are already in its buffer (R130 to R134). -/
def Obligations.CursorReadHitsAtOnce : Prop :=
  ∀ (n : Fin 32) (t : Txn) (num letter : Nat) (s : State), t.wf = true → linkOpen n s → Serves t 4 num s →
    (s.cursor num).letter = some letter → cacheNumbered s →
    let k := s.cursor num
    let len := (s.letter letter).length
    let first := t.offset / 2
    let last := (t.offset + t.len - 1) / 2
    let uses := fun f : Nat => ∃ o, k.inside len first last o ∧
      (k.position o / 4096 / 128 = f ∨
        (0 < k.position o % 4096 ∧ k.position o / 4096 + 1 < len * 128 ∧ (k.position o / 4096 + 1) / 128 = f))
    let written := fun (e : Entry) => e.buf.length = t.len ∧
      ∀ j < t.len,
        let o := (t.offset + j) / 2
        let i := k.position o / 4096
        let f := k.position o % 4096
        (¬k.inside len first last o → e.buf.getD j 0 = 0) ∧
        (k.inside len first last o → ∀ x y,
          cachedSample s letter i = some x →
          (if f = 0 ∨ i + 1 = len * 128 then y = x else cachedSample s letter (i + 1) = some y) →
          e.buf.getD j 0 = sampleByte (interpolate x y f) (decide ((t.offset + j) % 2 = 1)))
    ((∀ f, uses f → cachedSamples s letter f ≠ none) →
      NextWith (exec (.transactionAccept n t) s) fun u =>
        ∃ e, Held n t e s u ∧ e.st = .ready ∧ e.outcome = .served ∧ e.response = some .ok ∧ written e) ∧
    ((∃ f, uses f ∧ cachedSamples s letter f = none) →
      NextWith (exec (.transactionAccept n t) s) fun u =>
        ∃ e, Held n t e s u ∧ e.st = .waitingFrames ∧ e.outcome = .served ∧ e.response = none ∧
          e.letter = some letter ∧ e.needs.Pairwise (· < ·) ∧
          (∀ f, f ∈ e.needs ↔ uses f ∧ cachedSamples s letter f = none) ∧ written e)

/-- The time code of a frame, by the minutes, seconds and hundredths of ms = 16 × f, two BCD digits each, hundredths
first. -/
def Obligations.TimeCodes : Prop :=
  ∀ f : Nat, f < 131072 →
    let bcdOf := fun (b : Byte) (v : Nat) => b.toNat / 16 = v / 10 ∧ b.toNat % 16 = v % 10
    bcdOf (timeCode f 0) (16 * f / 10 % 100) ∧ bcdOf (timeCode f 1) (16 * f / 1000 % 60) ∧
    bcdOf (timeCode f 2) (16 * f / 60000) ∧
    16 * f / 10 % 100 ≤ 99 ∧ 16 * f / 1000 % 60 ≤ 99 ∧ 16 * f / 60000 ≤ 34

/-- The take of a TIME read fixes every byte but the level of a speech frame: FFh beyond the end, the time code, and
the flag byte of a hush frame. It is answered at once when it covers no flag byte of a speech frame, and else issues
one slot read for each of them (R157 to R159, R162). The take of a RAW read writes the bytes that need no slot: zero
beyond the end and in bytes 80-127 of every unit, and the hush record of a hush frame. It is answered at once when
it covers no record byte of a speech frame, and else issues one slot read for each such frame (R164, R165). The
frames for which a TIME or a RAW read issues a slot read: the speech frames whose flag byte, or some byte of whose
record, it covers, each once, at the slot that the lookup gives (R157, R162, R164). The ascending order in which one read
issues its slot reads is the model's choice (log 38). -/
def Obligations.SlotViewReadsAreTaken : Prop :=
  (∀ (n : Fin 32) (t : Txn) (num : Nat) (s : State), t.wf = true → linkOpen n s → Serves t 2 num s →
     (s.letter num).serves →
     let l := s.letter num
     let reads := accessesFor (.timeRead n) num l (flagFrames t.offset t.len)
     NextWith (exec (.transactionAccept n t) s) fun u =>
       (∃ e, Held n t e s u ∧ e.outcome = .served ∧ e.buf.length = t.len ∧
         (∀ j < t.len,
           let f := (t.offset + j) / 4
           let k := (t.offset + j) % 4
           (l.length ≤ f → e.buf.getD j 0 = 0xFF) ∧
           (f < l.length → k < 3 → e.buf.getD j 0 = timeCode f k) ∧
           (f < l.length → k = 3 → l.lookup f = .hush →
             e.buf.getD j 0 = if ∃ c ∈ l.cues, c.pos = f then 3 else 1)) ∧
         (∀ f, f ∈ e.cued ↔ f ∈ flagFrames t.offset t.len ∧ ∃ c ∈ l.cues, c.pos = f) ∧
         (reads = [] → e.st = .ready ∧ e.response = some .ok) ∧
         (reads ≠ [] → e.st = .waitingMemory ∧ e.response = none)) ∧
       SlotReads reads s u ∧
       { u with entries := s.entries, nextRank := s.nextRank, raw := s.raw, portOut := s.portOut, bins := s.bins } = s) ∧
  (∀ (n : Fin 32) (t : Txn) (num : Nat) (s : State), t.wf = true → linkOpen n s → Serves t 3 num s →
     t.write = false → (s.letter num).serves →
     let l := s.letter num
     let reads := accessesFor (.exportRead n) num l (recordFrames t.offset t.len)
     NextWith (exec (.transactionAccept n t) s) fun u =>
       (∃ e, Held n t e s u ∧ e.outcome = .served ∧ e.buf.length = t.len ∧
         (∀ j < t.len,
           let f := (t.offset + j) / 128
           let k := (t.offset + j) % 128
           (l.length ≤ f ∨ 80 ≤ k → e.buf.getD j 0 = 0) ∧
           (f < l.length → k < 80 → l.lookup f = .hush → e.buf.getD j 0 = (hushRecord num).getD k 0)) ∧
         (reads = [] → e.st = .ready ∧ e.response = some .ok) ∧
         (reads ≠ [] → e.st = .waitingMemory ∧ e.response = none)) ∧
       SlotReads reads s u ∧
       { u with entries := s.entries, nextRank := s.nextRank, raw := s.raw, portOut := s.portOut, bins := s.bins } = s) ∧
  (∀ (kind : AccessKind) (num off len : Nat) (l : Letter), 0 < len →
     let time := accessesFor kind num l (flagFrames off len)
     let raw := accessesFor kind num l (recordFrames off len)
     time.Pairwise (fun a b => a.frame < b.frame) ∧ raw.Pairwise (fun a b => a.frame < b.frame) ∧
     (∀ a, a ∈ time ↔ a.kind = kind ∧ a.letter = num ∧ l.lookup a.frame = .speech a.bin a.slot ∧
       off ≤ 4 * a.frame + 3 ∧ 4 * a.frame + 3 < off + len) ∧
     (∀ a, a ∈ raw ↔ a.kind = kind ∧ a.letter = num ∧ l.lookup a.frame = .speech a.bin a.slot ∧
       ∃ j < len, (off + j) / 128 = a.frame ∧ (off + j) % 128 < 80))

/-- An answered slot read of a TIME read writes its frame's flag byte, with the level of the record's mean amplitude
field, or level 0 and a MEMORY_FAULT for a failed answer (R159, R160). An answered EXPORT_READ returns the record as
it stands and marks the letter DAMAGED when it fails a test; a failed answer gives zero bytes and a MEMORY_FAULT
(R71, R166). A slot read that ends while the part is RESETTING changes no bin and no letter; a failed one is announced with
MEMORY_FAULT, and with its last one the read is answered REFUSED with ACCESS_REFUSED (that MEMORY_FAULT comes first is the model's
choice, log 42). Of a read whose entry a link reset reserved each slot read completes with its test and notices, and with the last one
the entry is freed without a response, in every part state (R17, R19, R62, R163, R167, log 19). That a notice of an answer is posted
before the bin's hold is released is the model's choice (log 39). -/
def Obligations.SlotReadsAreAnswered : Prop :=
  (∀ (n : Fin 32) (frame : Nat) (code : MemCode) (data : List Byte) (a : Access) (e : Entry) (s : State),
     answerWf 80 code data = true → s.part = .running →
     s.raw.find? (Access.isFor (.timeRead n) frame) = some a → s.entry n = some e → e.reserved = false →
     e.write = false →
     let level := if code = .okay then min 15 (fieldAt data 6 2 / 2048) else 0
     let flag := (if frame ∈ e.cued then 2 else 0) + 16 * level
     NextWith (exec (.timeSlotReadAnswer n frame code data) s) fun u =>
       SlotReadEnds n (.timeRead n) a e
         (fun off j old => if off + j = 4 * frame + 3 then BitVec.ofNat 8 flag else old) s u ∧
       (code ≠ .okay → s.canPost → Announces (memoryFault a.letter frame a.bin a.slot) s u) ∧
       (code = .okay → u.portOut = s.portOut ∧ u.prod = s.prod ∧ u.overflow = s.overflow ∧ u.lost = s.lost) ∧
       { u with entries := s.entries, raw := s.raw, bins := s.bins, freeBins := s.freeBins }.unreported = s.unreported) ∧
  (∀ (n : Fin 32) (frame : Nat) (code : MemCode) (data : List Byte) (a : Access) (e : Entry) (s : State),
     answerWf 80 code data = true → s.part = .running →
     s.raw.find? (Access.isFor (.exportRead n) frame) = some a → s.entry n = some e → e.reserved = false →
     e.write = false →
     let fails := if code = .okay then testRecord data else none
     NextWith (exec (.exportReadAnswer n frame code data) s) fun u =>
       SlotReadEnds n (.exportRead n) a e
         (fun off j old =>
           if (off + j) / 128 = frame ∧ (off + j) % 128 < 80 then
             (if code = .okay then data.getD ((off + j) % 128) 0 else 0)
           else old) s u ∧
       (∀ m, u.letter m =
         if m = a.letter ∧ fails ≠ none ∧ (s.letter m).state ≠ .free then { s.letter m with damaged := true }
         else s.letter m) ∧
       (∀ c, fails = some c → s.canPost → Announces (frameDamaged a.letter frame a.bin a.slot c) s u) ∧
       (code ≠ .okay → s.canPost → Announces (memoryFault a.letter frame a.bin a.slot) s u) ∧
       (code = .okay → fails = none → u.portOut = s.portOut ∧ u.prod = s.prod) ∧
       { u with entries := s.entries, letters := s.letters, raw := s.raw, bins := s.bins
                freeBins := s.freeBins }.unreported = s.unreported) ∧
  (∀ (n : Fin 32) (frame : Nat) (code : MemCode) (data : List Byte) (a : Access) (e : Entry) (s : State),
     answerWf 80 code data = true → s.part = .running → s.entry n = some e → e.reserved = true →
     (s.raw.find? (Access.isFor (.timeRead n) frame) = some a →
       NextWith (exec (.timeSlotReadAnswer n frame code data) s) fun u =>
         AccessEnds n (.timeRead n) a s u ∧ ReservedEnds n (.timeRead n) e u ∧
         (code ≠ .okay → s.canPost → Announces (memoryFault a.letter frame a.bin a.slot) s u) ∧
         (code = .okay → u.portOut = s.portOut ∧ u.prod = s.prod) ∧
         { u with entries := s.entries, raw := s.raw, bins := s.bins, freeBins := s.freeBins }.unreported = s.unreported) ∧
     (s.raw.find? (Access.isFor (.exportRead n) frame) = some a →
       let fails := if code = .okay then testRecord data else none
       NextWith (exec (.exportReadAnswer n frame code data) s) fun u =>
         AccessEnds n (.exportRead n) a s u ∧ ReservedEnds n (.exportRead n) e u ∧
         (∀ m, u.letter m =
           if m = a.letter ∧ fails ≠ none ∧ (s.letter m).state ≠ .free then { s.letter m with damaged := true }
           else s.letter m) ∧
         (∀ c, fails = some c → s.canPost → Announces (frameDamaged a.letter frame a.bin a.slot c) s u) ∧
         (code ≠ .okay → s.canPost → Announces (memoryFault a.letter frame a.bin a.slot) s u) ∧
         (code = .okay → fails = none → u.portOut = s.portOut ∧ u.prod = s.prod) ∧
         { u with entries := s.entries, letters := s.letters, raw := s.raw, bins := s.bins
                  freeBins := s.freeBins }.unreported = s.unreported)) ∧
  (∀ (n : Fin 32) (frame : Nat) (code : MemCode) (data : List Byte) (a : Access) (e : Entry) (s : State),
     answerWf 80 code data = true → s.part = .resetting → s.entry n = some e → e.write = false →
     (s.raw.find? (Access.isFor (.timeRead n) frame) = some a →
       NextWith (exec (.timeSlotReadAnswer n frame code data) s) (ResettingReadEnds n (.timeRead n) code a e s)) ∧
     (s.raw.find? (Access.isFor (.exportRead n) frame) = some a →
       NextWith (exec (.exportReadAnswer n frame code data) s) (ResettingReadEnds n (.exportRead n) code a e s)))

/-! ### Writes -/

/-- A PCM write that continues its channel's run and fits is taken at hand-over: its samples enter the buffers in order, the next
host index rises by their number and the write is answered OK. (A FILLING buffer holds at most 127 samples: R85,
`FrameBuffersStaySound`.) A write that brings the fill buffer to 128 samples finishes its frame, and one that brings 256 finishes
two; a finished frame joins the queue, or, as HUSH on an empty queue, is settled at once (R87, R92, R96, R98). A PCM write of 1 to
256 samples that begins a run, with an empty finished queue, an empty waiting list and both buffers FREE, is taken at once with
the run's fields of R91; so is one that ends a run whose pad is a HUSH frame settled at once on the empty queue (R84, R89 to R92,
R95; of two FREE buffers it fills buffer 0 first: the model's choice, log 22). A write that is not taken at hand-over is held:
behind other writes, and where it continues the run without room for it, in WAITING_SPACE; where it begins a run and frames are
queued, in WAITING_RUN, with the current run padded and ended (R88 to R90, R95). A write that continues the run and can never be
taken is refused with MISALIGNED (R89 step 2). -/
def Obligations.PcmWritesAreTaken : Prop :=
  (∀ (n : Fin 32) (t : Txn) (view num c b e : Nat) (s : State), t.wf = true → linkOpen n s → Serves t view num s →
     t.write = true → view = 0 ∨ view = 1 → t.handed view →
     (s.letter num).state = .recording → (s.letter num).channel = some c →
     (s.channel c).state = .run → (s.channel c).waiting = [] → (s.channel c).runKind = some .pcm →
     (s.channel c).nextIdx = some (t.offset / stride view) → (s.channel c).editPoint = some e →
     (s.channel c).letter = some num →
     (s.channel c).fillBuffer = some b ∨ (s.channel c).fillBuffer = none ∧ (s.channel c).freeBuffer = some b →
     (s.channel c).fill.length < 128 →
     let ch := s.channel c
     let xs := if view = 0 then samples16 t.data else samples8 t.data
     let full := ch.fill ++ xs
     headWaits ch.queue → full.length ≤ 128 ∨ (full.length ≤ 256 ∧ ch.buffer (1 - b) = .free) →
     NextWith (exec (.transactionAccept n t) s) fun u =>
       ReadyAtOnce n t .served .ok [] s u ∧
       SamplesEnter c num e b full (s.setChannel c { ch with nextIdx := some (t.offset / stride view + xs.length) })
         { u with entries := s.entries, nextRank := s.nextRank }) ∧
  (∀ (n : Fin 32) (t : Txn) (view num c : Nat) (s : State), t.wf = true → linkOpen n s → Serves t view num s →
     t.write = true → view = 0 ∨ view = 1 → t.handed view →
     (s.letter num).state = .recording → (s.letter num).channel = some c → (s.channel c).letter = some num →
     (s.channel c).state ≠ .flushing → (s.channel c).waiting = [] →
     (s.channel c).runKind ≠ some .pcm ∨ (s.channel c).nextIdx ≠ some (t.offset / stride view) →
     (s.channel c).givesWay →
     NextWith (exec (.transactionAccept n t) s) fun u =>
       ReadyAtOnce n t .served .ok [] s u ∧
       RunBegins c num view (t.offset / stride view) t.len t.data (fun x => x) s
         { u with entries := s.entries, nextRank := s.nextRank }) ∧
  (∀ (n : Fin 32) (t : Txn) (view num c : Nat) (s : State), t.wf = true → linkOpen n s → Serves t view num s →
     t.write = true → t.handed view →
     (s.letter num).state = .recording → (s.letter num).channel = some c → (s.channel c).state ≠ .flushing →
     let ch := s.channel c
     let kind : RunKind := if view = 3 then .raw else .pcm
     let starts := ch.runKind ≠ some kind ∨ ch.nextIdx ≠ some (t.offset / stride view)
     let count := if view = 0 then t.len / 2 else t.len
     let waits := fun (st : EntryState) (ch' : Channel) =>
       NextWith (exec (.transactionAccept n t) s) (WriteWaits n c t st ch' s)
     (ch.waiting ≠ [] → waits .waitingSpace ch) ∧
     (ch.waiting = [] → ¬starts →
       (view = 3 → ch.freeBuffer = none → waits .waitingSpace ch) ∧
       (view ≠ 3 → ch.freeSpace < count → count ≤ 256 - ch.fill.length → waits .waitingSpace ch) ∧
       (view ≠ 3 → 256 - ch.fill.length < count → TablesOk s →
         NextWith (exec (.transactionAccept n t) s) (RefusedAtOnce n t view num (some c) .misaligned s))) ∧
     (ch.waiting = [] → starts →
       (ch.runKind = none → ch.queue ≠ [] → waits .waitingRun ch) ∧
       (ch.runKind ≠ none → ch.fillBuffer = none → ch.queue ≠ [] → waits .waitingRun ch.ended) ∧
       (∀ b e, ch.runKind ≠ none → ch.fillBuffer = some b → ch.editPoint = some e → ch.letter = some num →
         headWaits ch.queue →
         let d := hushDecision ch.threshold ch.hang ch.hangCount (meanAmplitude (padSamples ch.fill))
         d.1 = true ∨ ch.queue ≠ [] → waits .waitingRun (ch.padded num e b d))))

/-- The held write at the head of a channel's list is taken once it continues the run and fits, or once it can begin a run on an
empty queue: it is answered OK and leaves the list. Otherwise WRITE_TAKEN and RUN_BEGIN change nothing (R88 to R92, R169; that the
two are steps of their own is the model's reading of R88, log 7, and that they leave the state unchanged its choice, log 1). A
held write that is alone in its channel's list, PCM or RAW: taken, its samples or its record enter the channel as at hand-over,
and beginning a run it fixes the run's fields as R91 and R169 give (in buffer 0 by the model's choice, log 22). A write that
begins a run and comes to the head as the write ahead of it expires: the current run ends and, with the finished queue empty, its
own run begins in the same consideration, the channel staying in RUN (R84, R88, R90, R93; HOLD_EXPIRED first by the model's
choice, log 42). -/
def Obligations.HeldWritesAreTaken : Prop :=
  (∀ (c : Fin 32) (n : Nat) (e : Entry) (rest : List Nat) (s : State),
     (s.channel c).waiting = n :: rest → s.entry n = some e → n ∉ rest →
     let starts := (s.channel c).runKind ≠ some e.runKind ∨ (s.channel c).nextIdx ≠ some e.firstUnit
     let takes := ¬starts ∧ tooLarge (s.channel c) e = false ∧ fits (s.channel c) e = true
     let begins := starts ∧ (s.channel c).runKind = none ∧ (s.channel c).queue = []
     let taken := fun u : State => u.entry n = some e.ok ∧ n ∉ (u.channel c).waiting ∧ u.writeMask = s.writeMask
     (takes → NextWith (exec (.writeTaken c) s) taken) ∧
     (begins → NextWith (exec (.runBegin c) s) taken) ∧
     (¬takes → exec (.writeTaken c) s = .next s) ∧
     (¬begins → exec (.runBegin c) s = .next s)) ∧
  (∀ (c : Fin 32) (n num e b : Nat) (x : Entry) (s : State),
     (s.channel c).waiting = [n] → s.entry n = some x → x.view = 0 ∨ x.view = 1 ∨ x.view = 3 →
     x.buf.length = x.len → 0 < x.count → x.count ≤ 256 → (x.view = 0 → x.len % 2 = 0) →
     (s.letter num).state = .recording → (s.letter num).channel = some (c : Nat) → (s.channel c).letter = some num →
     let ch := s.channel c
     let answered := fun u : State => u.entry n = some x.ok ∧ (∀ m, m ≠ n → u.entry m = s.entry m)
     (ch.runKind = some x.runKind → ch.nextIdx = some x.firstUnit → ch.editPoint = some e → headWaits ch.queue →
       (if x.view = 3 then ch.freeBuffer = some b
        else (ch.fillBuffer = some b ∨ ch.fillBuffer = none ∧ ch.freeBuffer = some b) ∧ ch.fill.length < 128 ∧
          (ch.fill.length + x.count ≤ 128 ∨ ch.fill.length + x.count ≤ 256 ∧ ch.buffer (1 - b) = .free)) →
       NextWith (exec (.writeTaken c) s) fun u =>
         answered u ∧ WriteEnters c num e b x.view x.buf
           (s.setChannel c { ch with waiting := [], nextIdx := some (x.firstUnit + x.count) }) { u with entries := s.entries }) ∧
     (ch.runKind = none → ch.givesWay →
       NextWith (exec (.runBegin c) s) fun u =>
         answered u ∧ RunBegins c num x.view x.firstUnit x.len x.buf (fun y => y)
           (s.setChannel c { ch with waiting := [] }) { u with entries := s.entries })) ∧
  (∀ (n : Fin 32) (m c num : Nat) (e x : Entry) (s : State),
     s.entry n = some e → e.write = true → e.st = .waitingSpace ∨ e.st = .waitingRun →
     (s.letter e.num).channel = some c →
     s.holdLimit ≠ 0 → s.holdLimit ≤ (s.tsc.toNat + 2 ^ 48 - e.holdStart.toNat) % 2 ^ 48 →
     (s.channel c).waiting = [(n : Nat), m] → m ≠ n → s.entry m = some x → x.view = 0 ∨ x.view = 1 ∨ x.view = 3 →
     x.buf.length = x.len → 0 < x.count → x.count ≤ 256 → (x.view = 0 → x.len % 2 = 0) →
     (s.letter num).state = .recording → (s.letter num).channel = some c → (s.channel c).letter = some num →
     let ch := s.channel c
     ch.runKind ≠ some x.runKind ∨ ch.nextIdx ≠ some x.firstUnit → ch.givesWay →
     NextWith (exec (.holdExpiry n) s) fun u =>
       u.entry n = some e.refuse ∧ u.entry m = some x.ok ∧ (∀ k, k ≠ n → k ≠ m → u.entry k = s.entry k) ∧
       ∃ v, (s.canPost → Announces (holdExpired e (some c)) s v) ∧ v.channel c = { ch with waiting := [] } ∧
         (∀ k, k ≠ c → v.channel k = s.channel k) ∧ { v with channels := s.channels }.unreported = s.unreported ∧
         RunBegins c num x.view x.firstUnit x.len x.buf (fun y => y) v { u with entries := s.entries })

/-- A RAW write of one whole unit whose record passes its test is taken at hand-over where it continues its channel's run and
finds a FREE buffer, and where it begins a run on an empty finished queue: the run is then RAW, its edit point the record index or
the letter's length, and the carried step index stays; a PCM run that it ends is padded, and a pad that is HUSH is settled at once
(R84, R90, R91, R169). A SPEECH record takes a slot from the bin table and is rewritten with its channel's letter and a new check
word; its slot write is issued and its frame joins the finished queue in ENCODING. Without a slot the frame is dropped for BINS. A
HUSH record behind a frame that is not READY joins the queue as a READY hush frame without a cap; on an empty queue it is placed
at once, or dropped for the limit it meets, and its buffer is FREE again. A record that fails its test is answered REFUSED with
IMPORT_REJECTED (R168 to R170). The answer to an import's slot write: while RESETTING, with the channel cleared, only the access
ends; an OKAY answer makes the frame READY, and at the head places it at once, or drops it for the limit it meets; any other
answer drops the frame, wherever it stands in the queue, and settles its slot; the frames behind a dropped one follow it closer
(R48, R54, R101, R163, R171). Where both buffers are FREE a record enters buffer 0 (the model's choice, log 22). -/
def Obligations.ImportsAreTakenAndAnswered : Prop :=
  ((∀ (n : Fin 32) (t : Txn) (num c b e : Nat) (s : State), t.wf = true → linkOpen n s → Serves t 3 num s →
      t.write = true → t.handed 3 →
      (s.letter num).state = .recording → (s.letter num).channel = some c →
      (s.channel c).state = .run → (s.channel c).waiting = [] → (s.channel c).runKind = some .raw →
      (s.channel c).nextIdx = some (t.offset / 128) → (s.channel c).editPoint = some e →
      (s.channel c).letter = some num → (s.channel c).freeBuffer = some b → headWaits (s.channel c).queue →
      NextWith (exec (.transactionAccept n t) s) fun u =>
        ReadyAtOnce n t .served .ok [] s u ∧
        RecordEnters c num e b (bytesAt t.data 0 80)
          (s.setChannel c { s.channel c with nextIdx := some (t.offset / 128 + 1) })
          { u with entries := s.entries, nextRank := s.nextRank }) ∧
   (∀ (n : Fin 32) (t : Txn) (num c : Nat) (s : State), t.wf = true → linkOpen n s → Serves t 3 num s →
      t.write = true → t.handed 3 →
      (s.letter num).state = .recording → (s.letter num).channel = some c → (s.channel c).letter = some num →
      (s.channel c).state ≠ .flushing → (s.channel c).waiting = [] →
      (s.channel c).runKind ≠ some .raw ∨ (s.channel c).nextIdx ≠ some (t.offset / 128) → (s.channel c).givesWay →
      NextWith (exec (.transactionAccept n t) s) fun u =>
        ReadyAtOnce n t .served .ok [] s u ∧
        RunBegins c num 3 (t.offset / 128) t.len t.data (fun x => x) s
          { u with entries := s.entries, nextRank := s.nextRank }) ∧
   (∀ (n : Fin 32) (t : Txn) (num c : Nat) (cause : Cause) (s : State), t.wf = true → linkOpen n s → Serves t 3 num s →
      t.write = true → t.offset % 128 = 0 → t.len = 128 →
      (s.letter num).state = .recording → (s.letter num).channel = some c → (s.channel c).state ≠ .flushing →
      recordKind (bytesAt t.data 0 80) ≠ 0x48 → testRecord (bytesAt t.data 0 80) = some cause →
      NextWith (exec (.transactionAccept n t) s) fun u =>
        ReadyAtOnce n t .refused .refused (zeros t.len) s u ∧
        (s.canPost → Announces
          { kind := .importRejected, ringSlot := 0, letter := some num, unit := some c, code := cause.code
            detail := [0, 0, t.id, 0] ++ leBytes 4 (t.offset / 128) } s u) ∧
        { u with entries := s.entries, nextRank := s.nextRank }.unreported = s.unreported) ∧
   (∀ (num : Nat) (r : List Byte), r.length = 80 → num < 1024 →
      let w := rewriteRecord num r
      w.length = 80 ∧ fieldAt w 2 2 = num ∧ recordPasses w = true ∧ recordKind w = recordKind r ∧
      recordStep w = recordStep r ∧
      ∀ k, k < 80 → k ≠ 2 → k ≠ 3 → k ≠ 14 → k ≠ 15 → w.getD k 0 = r.getD k 0)) ∧
  (∀ (c b slot i : Nat) (code : MemCode) (a : Access) (f : FFrame) (s : State),
     s.raw.find? (Access.isImport b slot) = some a → a.kind = .importWrite c →
     (s.channel c).queue[i]? = some f → f.place = some (b, slot) → (∀ g ∈ (s.channel c).queue.take i, g.place ≠ some (b, slot)) →
     let left : State := { s with raw := s.raw.filter fun x => !x.isImport b slot }
     (s.part ≠ .resetting → code = .okay → 0 < i → (∀ g, (s.channel c).queue.head? = some g → g.stage ≠ .ready) →
       exec (.importWriteAnswer b slot code) s = .next
         (left.setChannel c { s.channel c with queue := (s.channel c).queue.set i { f with stage := .ready } })) ∧
     (∀ behind, s.part ≠ .resetting → code = .okay → (s.channel c).queue = f :: behind → headWaits behind → f.cap = none →
       (s.letter f.letter).state = .recording → (s.letter f.letter).channel = some c →
       (placeLimit f (s.letter f.letter) s.freeSegs = none →
         exec (.importWriteAnswer b slot code) s = .next
           (commitPlacement c { f with stage := .ready }
             (left.setChannel c { s.channel c with queue := { f with stage := .ready } :: behind }))) ∧
       (∀ r, placeLimit f (s.letter f.letter) s.freeSegs = some r →
         NextWith (exec (.importWriteAnswer b slot code) s) fun u =>
           u.channel c = (s.channel c).dropped [] f behind ∧ (∀ d, d ≠ c → u.channel d = s.channel d) ∧
           DropReported c f r s u ∧
           BinBecomes b { s.bin b with inFlight := (s.bin b).inFlight - 1 } s u ∧ u.recMask = left.recMask)) ∧
     (∀ ahead behind, s.part ≠ .resetting → code ≠ .okay → (s.channel c).queue = ahead ++ f :: behind → i = ahead.length →
       headWaits (ahead ++ behind) →
       NextWith (exec (.importWriteAnswer b slot code) s) fun u =>
         u.channel c = (s.channel c).dropped ahead f behind ∧ (∀ d, d ≠ c → u.channel d = s.channel d) ∧
         DropReported c f .memory s u ∧
         BinBecomes b { s.bin b with inFlight := (s.bin b).inFlight - 1 } s u ∧ u.recMask = left.recMask)) ∧
  (∀ (b slot : Nat) (code : MemCode) (a : Access) (s : State), s.raw.find? (Access.isImport b slot) = some a →
     s.part = .resetting →
     exec (.importWriteAnswer b slot code) s = .next { s with raw := s.raw.filter fun x => !x.isImport b slot })

/-- Where a placed frame lies: an APPEND and an INSERT put it at its target and move every later frame on by one, an
OVERWRITE replaces the frame at its target, and every other frame stays where it was, in its slot or in silence; the
length and the counts follow: at an OVERWRITE the counts lose the old frame's kind and gain the new frame's (R53, R55 to
R58). -/
def Obligations.PlacementEditsTheFrames : Prop :=
  ∀ (f : FFrame) (l : Letter), (∀ g ∈ l.segs, 0 < g.frames) → (l.segs.map Seg.frames).sum = l.length →
    f.target ≤ l.length → (f.speech = true → f.place ≠ none) →
    let l' := l.place f
    let new : FrameLoc := match f.item with
      | .speech b sl => .speech b sl
      | .hush => .hush
    let grows := f.target = l.length ∨ f.mode = .insert
    (∀ g ∈ l'.segs, 0 < g.frames) ∧ (l'.segs.map Seg.frames).sum = l'.length ∧
    l'.length = (if grows then l.length + 1 else l.length) ∧
    (∀ x, x < f.target → l'.lookup x = l.lookup x) ∧
    l'.lookup f.target = new ∧
    (∀ x, f.target < x → l'.lookup x = if grows then l.lookup (x - 1) else l.lookup x) ∧
    (grows → l'.speech = l.speech + (if f.item = .hush then 0 else 1) ∧
      l'.hush = l.hush + (if f.item = .hush then 1 else 0)) ∧
    (¬grows →
      let wasHush := if l.lookup f.target = .hush then 1 else 0
      (wasHush = 0 → 0 < l.speech) → (wasHush = 1 → 0 < l.hush) →
        l'.speech + (1 - wasHush) = l.speech + (if f.item = .hush then 0 else 1) ∧
        l'.hush + wasHush = l.hush + (if f.item = .hush then 1 else 0))

/-- Placement of the head frame is one change: the letter's edit, the free segment entries, the frame's slot settled and an
overwritten slot released (in another bin, or in the frame's own, whose live count then stands), the buffer, the cache entries it
outdates, and, at an INSERT, the cues and the targets of the letter's cursors (R48, R51, R56 to R60, R118, R140). -/
def Obligations.PlacementIsOneChange : Prop :=
  ∀ (c : Nat) (f : FFrame) (q : List FFrame) (s : State), (s.channel c).queue = f :: q →
    Tab.wf Cursor.initial s.cursors = true → placeLimit f (s.letter f.letter) s.freeSegs = none →
    let l := s.letter f.letter
    let u := commitPlacement c f s
    let grows := f.target = l.length ∨ f.mode = .insert
    let inserts := f.target ≠ l.length ∧ f.mode = .insert
    let outdated := fun n k : Nat => n = f.letter ∧
      (if inserts then f.target ≤ k else k = f.target) ∧ ¬(¬grows ∧ f.item = .hush ∧ l.lookup f.target = .hush)
    u.letter f.letter = l.place f ∧ (∀ m, m ≠ f.letter → u.letter m = s.letter m) ∧
    u.freeSegs + (u.letter f.letter).segs.length = s.freeSegs + l.segs.length ∧
    u.channel c =
      { (s.channel c).setBuffer f.buffer ((s.channel c).buffer f.buffer).release with queue := q } ∧
    (∀ d, d ≠ c → u.channel d = s.channel d) ∧
    (∀ b sl, f.place = some (b, sl) → (grows ∨ ∀ b' sl', l.lookup f.target ≠ .speech b' sl') →
      BinBecomes b { s.bin b with live := (s.bin b).live + 1, inFlight := (s.bin b).inFlight - 1 } s u) ∧
    (∀ b sl b' sl', f.place = some (b, sl) → ¬grows → f.speech = true → l.lookup f.target = .speech b' sl' → b' ≠ b →
      ∃ v, BinBecomes b { s.bin b with live := (s.bin b).live + 1, inFlight := (s.bin b).inFlight - 1 } s v ∧
        BinBecomes b' { s.bin b' with live := (s.bin b').live - 1 } v u) ∧
    (∀ b sl sl', f.place = some (b, sl) → ¬grows → f.speech = true → l.lookup f.target = .speech b sl' →
      BinBecomes b { s.bin b with inFlight := (s.bin b).inFlight - 1 } s u) ∧
    (f.place = none → (grows ∨ ∀ b' sl', l.lookup f.target ≠ .speech b' sl') →
      u.bins = s.bins ∧ u.freeBins = s.freeBins) ∧
    (∀ b' sl', f.place = none → ¬grows → l.lookup f.target = .speech b' sl' →
      BinBecomes b' { s.bin b' with live := (s.bin b').live - 1 } s u) ∧
    (∀ e ∈ u.cache, ∀ n k, outdated n k → e.validFor n k = false ∧ e.fillingFor n k = false) ∧
    (∀ n k, ¬outdated n k → u.cache.filter (CacheEntry.validFor n k) = s.cache.filter (CacheEntry.validFor n k)) ∧
    (u.letter f.letter).cues = (if inserts then
      l.cues.map (fun q => if f.target ≤ q.pos then { q with pos := q.pos + 1 } else q) else l.cues) ∧
    (∀ k, (s.cursor k).letter ≠ some f.letter ∨ ¬inserts → u.cursor k = s.cursor k) ∧
    (∀ k, (s.cursor k).letter = some f.letter → inserts →
      (u.cursor k).targetIsNext (u.letter f.letter).cues ∧
        { u.cursor k with target := none } = { s.cursor k with target := none }) ∧
    u.recMask = s.recMask ∧ u.portOut = s.portOut

/-- The limits of placement, and the edit they are checked for. An APPEND or INSERT at a letter of 131072 frames is
dropped for LENGTH; else a placement whose net cost exceeds the free segment entries is dropped for SEGMENTS (R54). The
net cost: of an APPEND or INSERT by Table 3-5, of an OVERWRITE by Table 3-6 and R55, and none for HUSH over HUSH (R55 to
R58). A frame that meets a limit at the head of its queue is dropped: its slot is settled, its letter INCOMPLETE, its
buffer FREE, and the targets of the frames behind it and the edit point fall by 1. A frame whose letter is no longer
attached to its channel only leaves the queue (R48, R53, R54, R101, R102). -/
def Obligations.PlacementLimitsAndDrops : Prop :=
  (∀ (f : FFrame) (l : Letter) (free : Nat),
     let grows := f.target = l.length ∨ f.mode = .insert
     (placeLimit f l free = some .length ↔ grows ∧ l.length = 131072) ∧
     (placeLimit f l free = some .segments ↔
       ¬(grows ∧ l.length = 131072) ∧ free + l.segs.length < (l.place f).segs.length) ∧
     ∀ r, placeLimit f l free = some r → r = .length ∨ r = .segments) ∧
  (∀ (f : FFrame) (l : Letter), (∀ g ∈ l.segs, 0 < g.frames) → (l.segs.map Seg.frames).sum = l.length →
     f.target ≤ l.length →
     let grows := f.target = l.length ∨ f.mode = .insert
     let lim := match f.cap with
       | some c => if 0 < c ∧ grows then min 4096 c else 4096
       | none => 4096
     let old := l.segs.length
     let now := (l.place f).segs.length
     (∀ before after, grows → l.segs = before ++ after → (before.map Seg.frames).sum = f.target →
       now = old + f.newEntries lim before.getLast?) ∧
     (∀ before g after, l.segs = before ++ g :: after →
       let k := f.target - (before.map Seg.frames).sum
       (grows → (before.map Seg.frames).sum < f.target → k < g.frames →
         now = old + 1 + f.newEntries lim (some (g.head k))) ∧
       (¬grows → (before.map Seg.frames).sum ≤ f.target → k < g.frames →
         (f.item = .hush → (∃ h, g = .hush h) → l.place f = l) ∧
         (f.item ≠ .hush ∨ (∀ h, g ≠ .hush h) →
           (g.frames = 1 → now + 1 = old + f.newEntries lim before.getLast?) ∧
           (k = 0 → 1 < g.frames → now = old + f.newEntries lim before.getLast?) ∧
           (0 < k → k + 1 = g.frames → now = old + f.newEntries lim (some (g.head k))) ∧
           (0 < k → k + 1 < g.frames → now = old + 1 + f.newEntries lim (some (g.head k))))))) ∧
  (∀ (c : Nat) (f : FFrame) (behind : List FFrame) (s : State), (s.channel c).queue = f :: behind →
     let l := s.letter f.letter
     let attached := l.state = .recording ∧ l.channel = some c
     let u := placeHead c f s
     (∀ r, attached → placeLimit f l s.freeSegs = some r →
       u.channel c = (s.channel c).dropped [] f behind ∧ (∀ d, d ≠ c → u.channel d = s.channel d) ∧
       DropReported c f r s u ∧
       (∀ b sl, f.place = some (b, sl) → BinBecomes b { s.bin b with inFlight := (s.bin b).inFlight - 1 } s u) ∧
       (f.place = none → u.bins = s.bins ∧ u.freeBins = s.freeBins) ∧
       u.freeSegs = s.freeSegs ∧ u.cache = s.cache ∧ u.cursors = s.cursors ∧ u.recMask = s.recMask) ∧
     (¬attached →
       u.channel c = { (s.channel c).setBuffer f.buffer ((s.channel c).buffer f.buffer).release with queue := behind } ∧
       (∀ d, d ≠ c → u.channel d = s.channel d) ∧ { u with channels := s.channels } = s))

/-- The hush decision on a finished frame: SPEECH with the hang unchanged when T is 0, SPEECH with the hang set to H when
the mean amplitude reaches T, SPEECH with the hang one lower while it lasts, else HUSH (R96). The hush cap discards a HUSH
frame exactly when it has a cap above 0, would be appended or inserted, and the part up to its target of the segment that
would end there is HUSH of at least that many frames (R98). A HUSH frame that a write finishes on an empty queue is
settled at once: discarded by the cap without a trace but the buffer and the edit point, dropped for the limit it meets, or
placed (R92, R96, R98, R101; of two FREE buffers it fills buffer 0 by the model's choice, log 22). -/
def Obligations.HushDecisionAndCap : Prop :=
  (∀ t h hang a : Nat,
     (t = 0 → hushDecision t h hang a = (true, hang)) ∧
     (0 < t → t ≤ a → hushDecision t h hang a = (true, h)) ∧
     (0 < t → a < t → 0 < hang → hushDecision t h hang a = (true, hang - 1)) ∧
     (0 < t → a < t → hang = 0 → hushDecision t h hang a = (false, 0))) ∧
  (∀ xs : List Int, meanAmplitude xs = (xs.map Int.natAbs).sum / 128) ∧
  (∀ (f : FFrame) (l : Letter), (∀ g ∈ l.segs, 0 < g.frames) → (l.segs.map Seg.frames).sum = l.length →
     f.target ≤ l.length →
     (capDiscards f l = true ↔ ∃ c before k after n,
       f.cap = some c ∧ 0 < c ∧ (f.target = l.length ∨ f.mode = .insert) ∧
       l.segs = before ++ .hush k :: after ∧ (before.map Seg.frames).sum + n = f.target ∧ 0 < n ∧ n ≤ k ∧ c ≤ n)) ∧
  (∀ (n : Fin 32) (t : Txn) (view num c b e : Nat) (s : State), t.wf = true → linkOpen n s → Serves t view num s →
     t.write = true → view = 0 ∨ view = 1 → t.handed view →
     (s.letter num).state = .recording → (s.letter num).channel = some c →
     (s.channel c).state = .run → (s.channel c).waiting = [] → (s.channel c).runKind = some .pcm →
     (s.channel c).nextIdx = some (t.offset / stride view) → (s.channel c).editPoint = some e →
     (s.channel c).letter = some num → (s.channel c).queue = [] →
     (s.channel c).fillBuffer = some b ∨ (s.channel c).fillBuffer = none ∧ (s.channel c).freeBuffer = some b →
     let ch := s.channel c
     let l := s.letter num
     let xs := if view = 0 then samples16 t.data else samples8 t.data
     let full := ch.fill ++ xs
     full.length = 128 → (hushDecision ch.threshold ch.hang ch.hangCount (meanAmplitude full)).1 = false →
     let f := ch.finishedFrame num e b false
     let gone : Channel :=
       { ch.setBuffer b .free with nextIdx := some (t.offset / stride view + xs.length), hangCount := 0 }
     NextWith (exec (.transactionAccept n t) s) fun u =>
       ReadyAtOnce n t .served .ok [] s u ∧ (∀ k, k ≠ c → u.channel k = s.channel k) ∧
       (∀ m, m ≠ num → u.letter m = s.letter m) ∧ u.writeMask = s.writeMask ∧
       (capDiscards f l = true → u.channel c = gone ∧
         { u with entries := s.entries, nextRank := s.nextRank, channels := s.channels } = s) ∧
       (∀ r, capDiscards f l = false → placeLimit f l s.freeSegs = some r →
         u.channel c = { gone with dropMark := true } ∧ DropReported c f r s u ∧
         { u with entries := s.entries, nextRank := s.nextRank, channels := s.channels
                  letters := s.letters }.unreported = s.unreported) ∧
       (capDiscards f l = false → placeLimit f l s.freeSegs = none →
         u.channel c = { gone with editPoint := some (e + 1) } ∧ u.letter num = l.place f ∧
         u.freeSegs + (u.letter num).segs.length = s.freeSegs + l.segs.length ∧ u.portOut = s.portOut))

/-! ### Letter commands -/

/-- LETTER_OPEN of a letter and channel in range: BUSY on a transitional letter, WRONG_STATE in RECORDING and FILED,
IN_USE when the channel is not IDLE; else the letter records, from FREE with its tag and opened time and from READY
with both kept, and the channel is ATTACHED with its edit point absent (R22 to R25, R31). -/
def Obligations.LetterOpenOutcome : Prop :=
  ∀ (l c tag : BitVec 16) (opt : Byte) (s : State), s.takes →
    let n := l.toNat
    let k := c.toNat
    let x := s.letter n
    let ends := fun (r : Result) (e : State) =>
      NextWith (exec (.letterOpen l c tag opt) s) (Answered (some n) (some k) r [] e s)
    (1024 ≤ n ∨ 32 ≤ k → ends .outOfRange s) ∧
    (n < 1024 → k < 32 →
      (s.transitional n = true → ends .busy s) ∧
      (s.transitional n = false →
        (x.state = .recording ∨ x.state = .filed → ends .wrongState s) ∧
        (x.state = .free ∨ x.state = .ready →
          ((s.channel k).state ≠ .idle → ends .inUse s) ∧
          ((s.channel k).state = .idle →
            let x' : Letter :=
              if x.state = .free then
                { x with state := .recording, channel := some k, urgent := opt.getLsbD 0, tag := tag, opened := s.tsc }
              else { x with state := .recording, channel := some k, urgent := opt.getLsbD 0 }
            ends .done
              ((s.setLetter n x').setChannel k
                { s.channel k with state := .attached, letter := some n, editPoint := none })))))

/-- The letter commands that only set a field: LETTER_FILE makes READY FILED, LETTER_HOLD sets or clears HOLD of a
letter that is not FREE; every other field is kept, and a command that does not apply changes nothing (R22, R28,
R29). LETTER_QUERY posts LETTER_REPORT with the letter's record and changes no letter; a refused one posts
COMMAND_DONE. The closed-time field of a letter without a closed time is a free value, and using it advances the
model's counter (R22, R30, R175; log 12). -/
def Obligations.LetterFileHoldAndQuery : Prop :=
  (∀ (l : BitVec 16) (opt : Byte) (s : State), s.takes →
     let n := l.toNat
     let x := s.letter n
     let file := fun (r : Result) (e : State) =>
       NextWith (exec (.letterFile l) s) (Answered (some n) none r [] e s)
     let hold := fun (r : Result) (e : State) =>
       NextWith (exec (.letterHold l opt) s) (Answered (some n) none r [] e s)
     (1024 ≤ n → file .outOfRange s ∧ hold .outOfRange s) ∧
     (n < 1024 → s.transitional n = true → file .busy s ∧ hold .busy s) ∧
     (n < 1024 → s.transitional n = false →
       (x.state = .ready → file .done (s.setLetter n { x with state := .filed })) ∧
       (x.state ≠ .ready → file .wrongState s) ∧
       (x.state ≠ .free → hold .done (s.setLetter n { x with hold := opt.getLsbD 0 })) ∧
       (x.state = .free → hold .wrongState s))) ∧
  (∀ (l : BitVec 16) (s : State), s.takes →
     let n := l.toNat
     let x := s.letter n
     let ends := fun (r : Result) => NextWith (exec (.letterQuery l) s) (Answered (some n) none r [] s s)
     (1024 ≤ n → ends .outOfRange) ∧
     (n < 1024 → s.transitional n = true → ends .busy) ∧
     (n < 1024 → s.transitional n = false → NextWith (exec (.letterQuery l) s) fun t =>
       t.lastResult = .done ∧ t.lastSlot = s.consumer ∧ t.consumer = (s.consumer + 1) % 64 ∧
       { t with freeIdx := s.freeIdx }.body = s.body ∧ (x.closed ≠ none → t.freeIdx = s.freeIdx) ∧
       (s.canPost → ∃ closedBytes later,
         closedBytes.length = 6 ∧ (∀ c, x.closed = some c → closedBytes = leBytes 6 c.toNat) ∧
         t.portOut = s.portOut ++ partWrite ((s.cfg.getD default).ringBase + 64 * s.prod)
           (([2, BitVec.ofNat 8 s.consumer] ++ leBytes 2 n ++ [unitByte x.channel, 0] ++ leBytes 6 s.tsc.toNat ++
             [BitVec.ofNat 8 x.state.code,
              BitVec.ofNat 8 ((if x.urgent then 1 else 0) + (if x.hold then 2 else 0) + (if x.damaged then 4 else 0) +
                (if x.incomplete then 8 else 0) + (if x.closed = none then 0 else 16)),
              BitVec.ofNat 8 x.cues.length, BitVec.ofNat 8 x.cursorCount] ++
             leBytes 4 x.length ++ leBytes 4 x.speech ++ leBytes 4 x.hush ++ leBytes 2 x.segs.length ++
             leBytes 2 x.tag.toNat ++ leBytes 6 x.opened.toNat) ++ closedBytes ++ zeros 20) :: later)))

/-- LETTER_CLOSE of a letter in RECORDING: held writes are refused, a run is ended and padded, and the channel is FLUSHING;
the close completes at once if the finished queue is then empty and else is in flight with its ring slot, and no
COMMAND_DONE is posted. A pad that is a HUSH frame on an empty queue is settled first: discarded by the cap, dropped or placed
(R98, R101). In every other case the command is refused (R22, R26, R95, R104, R105). A close completes when its
channel's finished queue is empty: the letter is READY with its closed time, the channel IDLE with its parameters kept,
and COMMAND_DONE carries the close's ring slot (R27, R105). After the last frame is settled the completion is a step of its
own, CLOSE_COMPLETION (the model's reading, log 7), which leaves the state unchanged while frames are queued (its choice,
log 1). -/
def Obligations.LetterCloseAndCompletion : Prop :=
  (∀ (l : BitVec 16) (s : State), s.takes →
     let n := l.toNat
     let x := s.letter n
     let ends := fun (r : Result) => NextWith (exec (.letterClose l) s) (Answered (some n) none r [] s s)
     (1024 ≤ n → ends .outOfRange) ∧
     (n < 1024 → s.transitional n = true → ends .busy) ∧
     (n < 1024 → s.transitional n = false → x.state ≠ .recording → ends .wrongState) ∧
     (∀ c, n < 1024 → s.transitional n = false → x.state = .recording → x.channel = some c →
       (∀ y ∈ s.longs, y.discard = true ∨ y.letter ≠ n) →
       let ch := s.channel c
       let long : LongCmd := { discard := false, letter := n, slot := s.consumer }
       NextWith (exec (.letterClose l) s) fun t =>
         t.lastResult = .done ∧ t.lastSlot = s.consumer ∧ t.consumer = (s.consumer + 1) % 64 ∧
         { t with longs := s.longs }.writeMask = s.writeMask ∧
         ((t.channel c).state = .flushing ∧ (t.channel c).queue ≠ [] ∧ t.longs = s.longs ++ [long] ∧
             (t.letter n).state = .recording ∨
           (t.channel c).state = .idle ∧ (t.channel c).queue = [] ∧ t.longs = s.longs ∧
             (t.letter n).state = .ready ∧ (t.letter n).channel = none ∧ (t.letter n).closed = some s.tsc) ∧
         (ch.waiting = [] → ch.runKind = none ∨ ch.fillBuffer = none →
           (ch.queue ≠ [] →
             t.channel c = { ch with state := .flushing, runKind := none
                                     nextIdx := if ch.runKind = none then ch.nextIdx else none } ∧
             t.longs = s.longs ++ [long] ∧ t.prod = s.prod ∧
             { t with longs := s.longs, channels := s.channels }.body = s.body) ∧
           (ch.queue = [] →
             t.channel c = { ch with state := .idle, letter := none, editPoint := none, runKind := none, nextIdx := none
                                     hangCount := 0, dropMark := false } ∧
             t.letter n = { x with state := .ready, channel := none, closed := some s.tsc } ∧
             (∀ m, m ≠ n → t.letter m = s.letter m) ∧ t.longs = s.longs ∧
             (s.canPost → Announces (commandDone s.consumer (some n) none .done []) s t ∧
               t.prod = (s.prod + 1) % s.ringSize) ∧
             { t with letters := s.letters, channels := s.channels }.body = s.body)) ∧
         (∀ b e, ch.waiting = [] → ch.runKind ≠ none → ch.fillBuffer = some b → ch.editPoint = some e →
           ch.letter = some n → headWaits ch.queue →
           let d := hushDecision ch.threshold ch.hang ch.hangCount (meanAmplitude (padSamples ch.fill))
           d.1 = true ∨ ch.queue ≠ [] →
             t.channel c = { ch.padded n e b d with state := .flushing } ∧
             t.longs = s.longs ++ [long] ∧ t.prod = s.prod ∧
             { t with longs := s.longs, channels := s.channels }.body = s.body) ∧
         (∀ b e, ch.waiting = [] → ch.runKind ≠ none → ch.fillBuffer = some b → ch.editPoint = some e →
           ch.letter = some n → ch.queue = [] →
           (hushDecision ch.threshold ch.hang ch.hangCount (meanAmplitude (padSamples ch.fill))).1 = false →
           let f := ch.finishedFrame n e b false
           let ready := fun y : Letter => { y with state := .ready, channel := none, closed := some s.tsc }
           t.channel c = { ch.setBuffer b .free with
                           state := .idle, letter := none, editPoint := none, runKind := none, nextIdx := none
                           hangCount := 0, dropMark := false } ∧
           t.longs = s.longs ∧ (∀ m, m ≠ n → t.letter m = s.letter m) ∧
           (capDiscards f x = true → t.letter n = ready x ∧
             (s.canPost → Announces (commandDone s.consumer (some n) none .done []) s t)) ∧
           (∀ y, capDiscards f x = false → placeLimit f x s.freeSegs = some y →
             t.letter n = ready { x with incomplete := true } ∧
             (ch.dropMark = false → s.canPost → Announces (frameDropped n c e y) s t)) ∧
           (capDiscards f x = false → placeLimit f x s.freeSegs = none →
             t.letter n = ready (x.place f) ∧
             t.freeSegs + (t.letter n).segs.length = s.freeSegs + x.segs.length ∧
             (s.canPost → Announces (commandDone s.consumer (some n) none .done []) s t))) ∧
         (∀ d, d ≠ c → t.channel d = s.channel d))) ∧
  (∀ (l : BitVec 16) (c : Nat) (s t : State), s.takes → l.toNat < 1024 → s.transitional l.toNat = false →
     (s.letter l.toNat).state = .recording → (s.letter l.toNat).channel = some c →
     (s.channel c).waiting.Nodup → exec (.letterClose l) s = .next t →
     (t.channel c).waiting = [] ∧
     (∀ m, m ∈ (s.channel c).waiting → t.entry m = (s.entry m).map Entry.refuse) ∧
     (∀ m, m ∉ (s.channel c).waiting → t.entry m = s.entry m)) ∧
  (∀ (c : Fin 32) (n slot : Nat) (before after : List LongCmd) (s : State),
     (s.channel c).letter = some n → (s.channel c).state = .flushing →
     ((s.channel c).queue = [] → s.longs = before ++ { discard := false, letter := n, slot := slot } :: after →
       (∀ x ∈ before ++ after, x.discard = true ∨ x.letter ≠ n) →
       NextWith (exec (.closeCompletion c) s) fun t =>
         (s.canPost → Announces (commandDone slot (some n) none .done []) s t) ∧
         t.letter n = { s.letter n with state := .ready, channel := none, closed := some s.tsc } ∧
         (∀ m, m ≠ n → t.letter m = s.letter m) ∧
         t.channel c =
           { s.channel c with state := .idle, letter := none, editPoint := none, runKind := none, nextIdx := none
                              hangCount := 0, dropMark := false } ∧
         (∀ d : Nat, d ≠ c → t.channel d = s.channel d) ∧
         t.longs = before ++ after ∧
         { t with letters := s.letters, channels := s.channels, longs := s.longs }.unreported = s.unreported) ∧
     ((s.channel c).queue ≠ [] → exec (.closeCompletion c) s = .next s))

/-- LETTER_DISCARD that does not apply changes nothing; taken, the letter is DISCARDING and in the discard queue
with its ring slot, its held reads are answered REFUSED, and no cache entry or request of it is left to serve (R34
to R36). A letter without segments and cues, at the head of the discard queue at once, ends there: it is FREE and
COMMAND_DONE is posted (R36, R38). The discard walk returns one segment at a time from the head letter of the discard
queue, taking its frames off its bin, and with the last one ends: the letter is FREE, its cues are back in the pool, and
COMMAND_DONE carries the discard's ring slot; a letter with cues and no segments ends in one step. Closes in flight and the
discards behind keep their places (R36 to R38; that the last segment and the end are one step is a reading, log 27). -/
def Obligations.LetterDiscardAndWalk : Prop :=
  (∀ (l : BitVec 16) (s : State), s.takes →
     let n := l.toNat
     let x := s.letter n
     let ends := fun (r : Result) => NextWith (exec (.letterDiscard l) s) (Answered (some n) none r [] s s)
     let long : LongCmd := { discard := true, letter := n, slot := s.consumer }
     (1024 ≤ n → ends .outOfRange) ∧
     (n < 1024 → s.transitional n = true → ends .busy) ∧
     (n < 1024 → s.transitional n = false → x.state = .free ∨ x.state = .recording → ends .wrongState) ∧
     (n < 1024 → s.transitional n = false → x.state = .ready ∨ x.state = .filed →
       (x.hold = true ∨ 0 < x.cursorCount → ends .inUse) ∧
       (x.hold = false → x.cursorCount = 0 → TablesOk s →
         let atOnce := s.discardQueue = [] ∧ x.segs = [] ∧ x.cues = []
         NextWith (exec (.letterDiscard l) s) fun t =>
           t.lastResult = .done ∧ t.lastSlot = s.consumer ∧ t.consumer = (s.consumer + 1) % 64 ∧
           (¬atOnce → t.letter n = { x with state := .discarding } ∧ t.longs = s.longs ++ [long]) ∧
           (atOnce → t.letter n = Letter.free ∧ t.longs = s.longs ∧
             ((∀ m e, s.entry m = some e → ¬(e.st = .waitingFrames ∧ e.letter = some n)) → s.canPost →
               Announces (commandDone s.consumer (some n) none .done []) s t ∧ t.prod = (s.prod + 1) % s.ringSize)) ∧
           (∀ m, t.entry m = (s.entry m).map fun e =>
             if e.st = .waitingFrames ∧ e.letter = some n then e.refuse else e) ∧
           (∀ r ∈ t.drq, r.letter ≠ n) ∧
           (∀ e ∈ t.cache, ∀ f, e.validFor n f = false ∧ e.fillingFor n f = false) ∧
           (∀ m, m ≠ n → t.letter m = s.letter m) ∧
           { t with letters := s.letters, longs := s.longs, entries := s.entries, cache := s.cache, drq := s.drq
                    room := s.room, roomDue := s.roomDue }.body = s.body))) ∧
  (∀ (n slot : Nat) (before rest : List LongCmd) (s : State),
     s.longs = before ++ { discard := true, letter := n, slot := slot } :: rest →
     (∀ x ∈ before, x.discard = false) → (∀ x ∈ rest, x.discard = true → x.letter ≠ n) →
     (∀ y, (rest.filter (·.discard)).head? = some y → (s.letter y.letter).segs ≠ [] ∨ (s.letter y.letter).cues ≠ []) →
     let x := s.letter n
     let ends := fun (t : State) =>
       t.letter n = Letter.free ∧ t.longs = before ++ rest ∧ t.freeCues = s.freeCues + x.cues.length ∧
       (s.canPost → Announces (commandDone slot (some n) none .done []) s t ∧ t.prod = (s.prod + 1) % s.ringSize)
     NextWith (exec .discardWalkStep s) fun t =>
       (∀ m, m ≠ n → t.letter m = s.letter m) ∧
       (x.segs = [] → ends t ∧ t.freeSegs = s.freeSegs ∧ t.bins = s.bins ∧ t.freeBins = s.freeBins) ∧
       (∀ g segs, x.segs = g :: segs →
         t.freeSegs = s.freeSegs + 1 ∧
         (∀ b first k, g = .speech b first k → BinBecomes b { s.bin b with live := (s.bin b).live - k } s t) ∧
         (∀ k, g = .hush k → t.bins = s.bins ∧ t.freeBins = s.freeBins) ∧
         (segs ≠ [] → t.letter n = { x with segs := segs } ∧ t.longs = s.longs ∧ t.freeCues = s.freeCues ∧
           t.portOut = s.portOut ∧ t.prod = s.prod) ∧
         (segs = [] → ends t)) ∧
       { t with letters := s.letters, longs := s.longs, freeSegs := s.freeSegs, freeCues := s.freeCues, bins := s.bins
                freeBins := s.freeBins }.unreported = s.unreported)

/-! ### Channel, cursor and cue commands -/

/-- CHANNEL_SET refuses a channel of 32 or more and a mode other than 0 and 1; else it stores the mode and the clamped threshold,
hang and cap, in every channel state. A change of mode in RUN ends the run, padding a fill buffer before the new parameters are
stored, and the head of the waiting list is considered again: with the finished queue empty its run begins at once. A pad that the
hush decision makes a HUSH frame on an empty finished queue is settled at once, under the old parameters: discarded by the cap,
dropped for the limit it meets, with FRAME_DROPPED ahead of COMMAND_DONE (the model's choice, log 41), or placed (R84, R90, R91,
R96, R98, R101, R103; that the head is considered under the new parameters is a reading, log 37, and that its samples enter buffer
0 the model's choice, log 22). A pad repeats the last sample of a partial fill up to 128 samples (R95). -/
def Obligations.ChannelSetOutcome : Prop :=
  (∀ (c : BitVec 16) (opt : Byte) (v1 v2 v3 : BitVec 32) (s : State), s.takes →
     let k := c.toNat
     let ch := s.channel k
     let clamp := fun (v : BitVec 32) (hi : Int) => (max 0 (min v.toInt hi)).toNat
     let set := fun (x : Channel) (m : Mode) =>
       { x with mode := m, threshold := clamp v1 32767, hang := clamp v2 63, cap := clamp v3 4096 }
     let ends := fun (r : Result) (e : State) =>
       NextWith (exec (.channelSet c opt v1 v2 v3) s) (Answered none (some k) r [] e s)
     (32 ≤ k ∨ 2 ≤ opt.toNat → ends .outOfRange s) ∧
     (∀ m : Mode, k < 32 → opt.toNat = (match m with | .overwrite => 0 | .insert => 1) →
       (ch.state ≠ .run ∨ ch.mode = m → ends .done (s.setChannel k (set ch m))) ∧
       (ch.state = .run → ch.mode ≠ m → ch.waiting = [] →
         (ch.fillBuffer = none → ends .done (s.setChannel k (set ch.ended m))) ∧
         (∀ b e n, ch.fillBuffer = some b → ch.editPoint = some e → ch.letter = some n → headWaits ch.queue →
           let d := hushDecision ch.threshold ch.hang ch.hangCount (meanAmplitude (padSamples ch.fill))
           d.1 = true ∨ ch.queue ≠ [] → ends .done (s.setChannel k (set (ch.padded n e b d) m)))) ∧
       (∀ b e n, ch.state = .run → ch.mode ≠ m → ch.waiting = [] → ch.fillBuffer = some b → ch.editPoint = some e →
         ch.letter = some n → ch.queue = [] → (s.letter n).state = .recording → (s.letter n).channel = some k →
         (hushDecision ch.threshold ch.hang ch.hangCount (meanAmplitude (padSamples ch.fill))).1 = false →
         let x := s.letter n
         let f := ch.finishedFrame n e b false
         let gone := { (ch.ended).setBuffer b .free with hangCount := 0 }
         (capDiscards f x = true → ends .done (s.setChannel k (set gone m))) ∧
         (∀ y, capDiscards f x = false → placeLimit f x s.freeSegs = some y →
           let e' := (s.setLetter n { x with incomplete := true }).setChannel k (set { gone with dropMark := true } m)
           NextWith (exec (.channelSet c opt v1 v2 v3) s) fun t =>
             t.body = e'.body ∧ t.lastResult = .done ∧ t.lastSlot = s.consumer ∧ t.consumer = (s.consumer + 1) % 64 ∧
             (ch.dropMark = true → s.canPost → t.prod = (s.prod + 1) % s.ringSize ∧
               Announces (commandDone s.consumer none (some k) .done []) s t) ∧
             (ch.dropMark = false → s.canPost →
               AnnouncesThen (frameDropped n k e y) (commandDone s.consumer none (some k) .done []) s t ∧
               let s' : State := { s with prod := (s.prod + 1) % s.ringSize }
               s'.canPost → t.prod = (s'.prod + 1) % s.ringSize)) ∧
         (capDiscards f x = false → placeLimit f x s.freeSegs = none → NextWith (exec (.channelSet c opt v1 v2 v3) s) fun t =>
           t.channel k = set { gone with editPoint := some (e + 1) } m ∧ t.letter n = x.place f ∧
           (∀ j, j ≠ k → t.channel j = s.channel j) ∧ (∀ j, j ≠ n → t.letter j = s.letter j) ∧
           t.freeSegs + (t.letter n).segs.length = s.freeSegs + x.segs.length ∧
           Answered none (some k) .done []
             { s with channels := t.channels, letters := t.letters, freeSegs := t.freeSegs, bins := t.bins
                      freeBins := t.freeBins, cache := t.cache, cursors := t.cursors } s t)) ∧
       (∀ w n x, ch.state = .run → ch.mode ≠ m → ch.waiting = [w] → s.entry w = some x →
         x.view = 0 ∨ x.view = 1 ∨ x.view = 3 → x.buf.length = x.len → 0 < x.count → x.count ≤ 256 →
         (x.view = 0 → x.len % 2 = 0) → ch.runKind ≠ none → ch.letter = some n →
         (s.letter n).state = .recording → (s.letter n).channel = some k → ch.givesWay →
         NextWith (exec (.channelSet c opt v1 v2 v3) s) fun t =>
           t.entry w = some x.ok ∧ (∀ j, j ≠ w → t.entry j = s.entry j) ∧
           ∃ v, RunBegins k n x.view x.firstUnit x.len x.buf (fun y => set y m)
               (({ s with lastResult := .done, lastSlot := s.consumer } : State).setChannel k { ch with waiting := [] }) v ∧
             Answered none (some k) .done [] v v { t with entries := v.entries }) ∧
       (NextWith (exec (.channelSet c opt v1 v2 v3) s) fun t =>
         (t.channel k).mode = m ∧ (t.channel k).threshold = clamp v1 32767 ∧ (t.channel k).hang = clamp v2 63 ∧
         (t.channel k).cap = clamp v3 4096 ∧ t.lastResult = .done ∧ t.lastSlot = s.consumer ∧
         t.writeMask = s.writeMask))) ∧
  (∀ xs : List Int, xs ≠ [] → xs.length ≤ 128 →
     (padSamples xs).length = 128 ∧
     ∀ i < 128, sampleAt (padSamples xs) i = sampleAt xs (min i (xs.length - 1)))

/-- CURSOR_ATTACH: a cursor of 32 or more and a letter of 1024 or more are OUT_OF_RANGE, a transitional letter BUSY,
a FREE letter WRONG_STATE; else the cursor leaves its letter, joins the named one and takes the values of R128, and
the notice carries the origin and the length (R22, R127, R128, R137). -/
def Obligations.CursorAttachOutcome : Prop :=
  ∀ (c l : BitVec 16) (v1 v2 : BitVec 32) (s : State), s.takes →
    let n := l.toNat
    let k := c.toNat
    let x := s.letter n
    let ends := fun (r : Result) =>
      NextWith (exec (.cursorAttach c l v1 v2) s) (Answered (some n) (some k) r [] s s)
    let frame := min v1.toNat x.length
    let rate := (max 2048 (min v2.toInt 6144)).toNat
    (1024 ≤ n ∨ 32 ≤ k → ends .outOfRange) ∧
    (n < 1024 → k < 32 → s.transitional n = true → ends .busy) ∧
    (n < 1024 → k < 32 → s.transitional n = false → x.state = .free → ends .wrongState) ∧
    (n < 1024 → k < 32 → s.transitional n = false → x.state ≠ .free →
      NextWith (exec (.cursorAttach c l v1 v2) s) fun t =>
        (t.cursor k).targetIsNext x.cues ∧
        { t.cursor k with target := none } =
          { letter := some n, origin := frame * 128 * 4096, base := 0, rate := rate, tempRate := rate, tempDur := 0
            lastRead := none, endMark := false, checked := frame - 1, target := none
            interval := (s.cursor k).interval, follow := (s.cursor k).follow } ∧
        (∀ m, t.letter m = { s.letter m with cursorCount :=
          (s.letter m).cursorCount - (if (s.cursor k).letter = some m then 1 else 0) + (if m = n then 1 else 0) }) ∧
        Answered (some n) (some k) .done (zeros 4 ++ leBytes 4 (frame * 128) ++ leBytes 4 x.length)
          { s with letters := t.letters, cursors := t.cursors } s t ∧
        (∀ d, d ≠ k → t.cursor d = s.cursor d))

/-- CURSOR_DETACH: an ATTACHED cursor leaves its letter and takes its power-on values but for the progress interval and the
cue-follow mark; on an IDLE cursor nothing changes; both are DONE, and reads in flight are not touched. CURSOR_STEP and
CURSOR_RATE: out of range beyond 31 or a base or duration beyond 16,777,215, WRONG_STATE on an IDLE cursor; else the cursor is
rebased from its resume position as R141 to R143 give, and the notice carries the new origin and the length (R127). CURSOR_TARGET
stores the progress interval and the cue-follow mark in both cursor states; an ATTACHED cursor's target is recomputed with its
checked frame unchanged, and nothing else of the cursor changes (R127, R137, R139). -/
def Obligations.CursorDetachRebaseAndTarget : Prop :=
  (∀ (c : BitVec 16) (s : State), s.takes →
     let k := c.toNat
     (32 ≤ k → NextWith (exec (.cursorDetach c) s) (Answered none (some k) .outOfRange [] s s)) ∧
     (k < 32 → (s.cursor k).letter = none →
       NextWith (exec (.cursorDetach c) s) (Answered none (some k) .done [] s s)) ∧
     (∀ n, k < 32 → (s.cursor k).letter = some n → NextWith (exec (.cursorDetach c) s) (Answered none (some k) .done []
       ((s.setLetter n { s.letter n with cursorCount := (s.letter n).cursorCount - 1 }).setCursor k
         { letter := none, origin := 0, base := 0, rate := 4096, tempRate := 4096, tempDur := 0, lastRead := none
           endMark := false, checked := -1, target := none
           interval := (s.cursor k).interval, follow := (s.cursor k).follow }) s))) ∧
  (∀ (c : BitVec 16) (v1 v2 v3 v4 : BitVec 32) (s : State), s.takes →
     let k := c.toNat
     let x := s.cursor k
     let resume : Int := x.position (match x.lastRead with | none => x.base | some r => max x.base (r + 1))
     let clampRate := fun (v : BitVec 32) => (max 2048 (min v.toInt 6144)).toNat
     let step := fun (r : Result) => NextWith (exec (.cursorStep c v1 v2) s) (Answered none (some k) r [] s s)
     let rate := fun (r : Result) => NextWith (exec (.cursorRate c v1 v2 v3 v4) s) (Answered none (some k) r [] s s)
     let detail := fun (o len : Nat) => zeros 4 ++ leBytes 4 (o / 4096) ++ leBytes 4 len
     (32 ≤ k ∨ 16777215 < v2.toNat → step .outOfRange) ∧
     (32 ≤ k ∨ 16777215 < v3.toNat ∨ 16777215 < v4.toNat → rate .outOfRange) ∧
     (k < 32 → v2.toNat ≤ 16777215 → x.letter = none → step .wrongState) ∧
     (k < 32 → v3.toNat ≤ 16777215 → v4.toNat ≤ 16777215 → x.letter = none → rate .wrongState) ∧
     (∀ n, k < 32 → v2.toNat ≤ 16777215 → x.letter = some n → NextWith (exec (.cursorStep c v1 v2) s) fun t =>
       let len := (s.letter n).length
       let o := (max 0 (min (resume + v1.toInt * 524288) (len * 524288))).toNat
       (t.cursor k).targetIsNext (s.letter n).cues ∧
       { t.cursor k with target := none } =
         { x with origin := o, base := v2.toNat, tempDur := 0, lastRead := none, endMark := false
                  checked := (o / 524288 : Nat) - 1, target := none } ∧
       Answered none (some k) .done (detail o len) { s with cursors := t.cursors } s t ∧
       (∀ d, d ≠ k → t.cursor d = s.cursor d)) ∧
     (∀ n, k < 32 → v3.toNat ≤ 16777215 → v4.toNat ≤ 16777215 → x.letter = some n →
       NextWith (exec (.cursorRate c v1 v2 v3 v4) s) fun t =>
         let len := (s.letter n).length
         let o := (max 0 (min resume (len * 524288))).toNat
         (t.cursor k).targetIsNext (s.letter n).cues ∧
         { t.cursor k with target := none } =
           { x with origin := o, base := v4.toNat, rate := clampRate v1, tempRate := clampRate v2, tempDur := v3.toNat
                    lastRead := none, endMark := false, target := none } ∧
         Answered none (some k) .done (detail o len) { s with cursors := t.cursors } s t ∧
         (∀ d, d ≠ k → t.cursor d = s.cursor d))) ∧
  (∀ (c : BitVec 16) (opt : Byte) (v1 : BitVec 32) (s : State), s.takes →
     let k := c.toNat
     (32 ≤ k ∨ 65535 < v1.toNat →
       NextWith (exec (.cursorTarget c opt v1) s) (Answered none (some k) .outOfRange [] s s)) ∧
     (k < 32 → v1.toNat ≤ 65535 → NextWith (exec (.cursorTarget c opt v1) s) fun t =>
       { t.cursor k with target := none } =
         { s.cursor k with interval := v1.toNat, follow := opt.getLsbD 0, target := none } ∧
       ((s.cursor k).letter = none → (t.cursor k).target = none) ∧
       (∀ n, (s.cursor k).letter = some n → (t.cursor k).targetIsNext (s.letter n).cues) ∧
       Answered none (some k) .done [] { s with cursors := t.cursors } s t ∧
       (∀ d, d ≠ k → t.cursor d = s.cursor d)))

/-- CUE_ADD, judged by R22 and R150: the position is clamped to the length or taken from the edit point; a cue
already at the position and kind is reported PRESENT, a full list or an empty pool NO_ROOM, and else the cue is in
the list, in order, and one record fewer is free (R149 to R152). The outcome of a NO_ROOM notice is one of the
four that R150 names, codes 1 to 4, and which of them is a free value (log 13). -/
def Obligations.CueAddOutcome : Prop :=
  ∀ (l : BitVec 16) (opt : Byte) (mode tag : BitVec 16) (v1 : BitVec 32) (s : State), s.takes →
    let n := l.toNat
    let x := s.letter n
    let ends := fun (r : Result) =>
      NextWith (exec (.cueAdd l opt mode tag v1) s) (Answered (some n) none r [] s s)
    (opt.toNat = 0 ∨ 3 < opt.toNat ∨ 2 ≤ mode.toNat ∨ 1024 ≤ n → ends .outOfRange) ∧
    (∀ kind : CueKind, opt.toNat = kind.code → mode.toNat < 2 → n < 1024 →
      (s.transitional n = true → ends .busy) ∧
      (s.transitional n = false → x.state = .free ∨ (mode.toNat = 1 ∧ x.state ≠ .recording) → ends .wrongState) ∧
      (s.transitional n = false → x.state ≠ .free → (mode.toNat = 1 → x.state = .recording) →
        let p :=
          if mode.toNat = 0 then min v1.toNat x.length
          else match (s.channel (x.channel.getD 0)).editPoint with
            | some e => min e x.length
            | none => x.length
        let detail := fun o : Byte => [o, BitVec.ofNat 8 kind.code, 0, 0] ++ leBytes 4 p
        let there := ∃ q ∈ x.cues, q.pos = p ∧ q.kind = kind
        let room := 0 < s.freeCues ∧ x.cues.length < 64
        (there → NextWith (exec (.cueAdd l opt mode tag v1) s) (Answered (some n) none .done (detail 2) s s)) ∧
        (¬there → ¬room → NextWith (exec (.cueAdd l opt mode tag v1) s) fun t =>
          ∃ o : Byte, 1 ≤ o.toNat ∧ o.toNat ≤ 4 ∧ Answered (some n) none .noRoom (detail o) { s with freeIdx := s.freeIdx + 1 } s t) ∧
        (¬there → room → NextWith (exec (.cueAdd l opt mode tag v1) s) fun t =>
          (∃ before after, x.cues = before ++ after ∧
            t.letter n = { x with cues := before ++ { pos := p, kind := kind, tag := tag } :: after } ∧
            (∀ q ∈ before, ¬(p < q.pos ∨ (p = q.pos ∧ kind.rank < q.kind.rank))) ∧
            (∀ q, after.head? = some q → p < q.pos ∨ (p = q.pos ∧ kind.rank < q.kind.rank))) ∧
          (∀ m, m ≠ n → t.letter m = s.letter m) ∧ t.freeCues + 1 = s.freeCues ∧
          (Tab.wf Cursor.initial s.cursors = true → ∀ k,
            if (s.cursor k).letter = some n then
              (t.cursor k).targetIsNext (t.letter n).cues ∧ { t.cursor k with target := none } =
                { s.cursor k with target := none }
            else t.cursor k = s.cursor k) ∧
          Answered (some n) none .done (detail 1)
            { s with letters := t.letters, cursors := t.cursors, freeCues := t.freeCues } s t)))

/-- CUE_REMOVE takes its position as given: a cue found at the position and kind leaves the list and its record
returns to the pool, and every attached cursor recomputes its target; else it reports ABSENT and changes nothing. -/
def Obligations.CueRemoveOutcome : Prop :=
  ∀ (l : BitVec 16) (opt : Byte) (v1 : BitVec 32) (s : State), s.takes →
    let n := l.toNat
    let x := s.letter n
    let ends := fun (r : Result) =>
      NextWith (exec (.cueRemove l opt v1) s) (Answered (some n) none r [] s s)
    (opt.toNat = 0 ∨ 3 < opt.toNat ∨ 1024 ≤ n → ends .outOfRange) ∧
    (∀ kind : CueKind, opt.toNat = kind.code → n < 1024 →
      (s.transitional n = true → ends .busy) ∧
      (s.transitional n = false → x.state = .free → ends .wrongState) ∧
      (s.transitional n = false → x.state ≠ .free →
        let detail := fun o : Byte => [o, BitVec.ofNat 8 kind.code, 0, 0] ++ leBytes 4 v1.toNat
        let there := ∃ q ∈ x.cues, q.pos = v1.toNat ∧ q.kind = kind
        (¬there → NextWith (exec (.cueRemove l opt v1) s) (Answered (some n) none .done (detail 4) s s)) ∧
        ((∀ q ∈ x.cues, q.pos ≤ x.length) → x.length < v1.toNat →
          NextWith (exec (.cueRemove l opt v1) s) (Answered (some n) none .done (detail 4) s s)) ∧
        (there → NextWith (exec (.cueRemove l opt v1) s) fun t =>
          t.letter n = { x with cues := x.cues.filter fun q => !(decide (q.pos = v1.toNat) && decide (q.kind = kind)) } ∧
          (∀ m, m ≠ n → t.letter m = s.letter m) ∧ t.freeCues = s.freeCues + 1 ∧
          (Tab.wf Cursor.initial s.cursors = true → ∀ k,
            if (s.cursor k).letter = some n then
              (t.cursor k).targetIsNext (t.letter n).cues ∧ { t.cursor k with target := none } =
                { s.cursor k with target := none }
            else t.cursor k = s.cursor k) ∧
          Answered (some n) none .done (detail 3)
            { s with letters := t.letters, cursors := t.cursors, freeCues := t.freeCues } s t)))

/-! ### The frame codec -/

/-- The step sizes: the formula of R63, its growth within a row and from row to row, its ends, and no decoding from
an index above 79. The step index moves by the adjustment of Table 4-3 and stays within 0 to 79, whatever the sign,
in coding and in decoding. The check word: the complement of the XOR of the other thirty-nine words makes a record pass; a
record of zeros fails; a change of one word of a passing record makes it fail, and the same flip in two words is not
seen. -/
def Obligations.StepSizesIndexAndCheckWord : Prop :=
  ((∀ k, k ≤ 79 → stepSize k = (8 + k % 8) * 2 ^ (k / 8)) ∧ stepSize 0 = 8 ∧ stepSize 79 = 7680 ∧
   (∀ k, k ≤ 79 → 8 ≤ stepSize k ∧ stepSize k ≤ 7680) ∧
   (∀ k, k ≤ 71 → stepSize (k + 8) = 2 * stepSize k) ∧
   (∀ row i, row ≤ 9 → i < 7 → 8 * (stepSize (8 * row + i + 1) - stepSize (8 * row + i)) = stepSize (8 * row)) ∧
   (∀ data : List Byte, recordKind data = 0x53 → 79 < (data.getD 1 0).toNat →
     decodeResult .okay data = .damaged .step)) ∧
  ((∀ k m : Nat, m ≤ 7 → (nextStep k m : Int) = max 0 (min ((k : Int) + [-1, -1, 0, 0, 2, 3, 4, 6].getD m 0) 79)) ∧
   nextStep 0 0 = 0 ∧ nextStep 0 1 = 0 ∧ (∀ m, 4 ≤ m → m ≤ 7 → nextStep 79 m = 79) ∧ nextStep 78 6 = 79 ∧
   (∀ (x : Int) (r : List Int) (p : Int) (k : Nat), ∃ m ≤ 7,
     encodeFrom (x :: r) p k =
       ((if (codeOf x p k).1 then 8 + m else m) ::
           (encodeFrom r (reconstruct p k (codeOf x p k).1 m) (nextStep k m)).1,
        (encodeFrom r (reconstruct p k (codeOf x p k).1 m) (nextStep k m)).2)) ∧
   (∀ (c : Nat) (r : List Nat) (p : Int) (k : Nat), ∃ y,
     decodeFrom (c :: r) p k = y :: decodeFrom r y (nextStep k (c % 8))) ∧
   (∀ (xs : List Int) (p : Int) (k : Nat), k ≤ 79 → (encodeFrom xs p k).2 ≤ 79)) ∧
  ((∀ head codes : List Byte, head.length = 14 → codes.length = 64 →
     (sealRecord head codes).length = 80 ∧ recordPasses (sealRecord head codes) = true ∧
     fieldAt (sealRecord head codes) 14 2 = (~~~(xorWords (head ++ codes))).toNat) ∧
   (∀ (letter kin : Nat) (xs : List Int), xs.length = 128 → recordPasses (encodeRecord letter xs kin) = true) ∧
   recordPasses (zeros 80) = false ∧
   (∀ (r : List Byte) (i : Nat) (lo hi : Byte), r.length = 80 → i < 40 → recordPasses r = true →
     (hi ++ lo : BitVec 16) ≠ r.getD (2 * i + 1) 0 ++ r.getD (2 * i) 0 →
     recordPasses ((r.set (2 * i) lo).set (2 * i + 1) hi) = false) ∧
   (∀ (r : List Byte) (i j : Nat) (lo hi : Byte), r.length = 80 → i < j → j < 40 →
     recordPasses (((((r.set (2 * i) (r.getD (2 * i) 0 ^^^ lo)).set (2 * i + 1) (r.getD (2 * i + 1) 0 ^^^ hi))
       ).set (2 * j) (r.getD (2 * j) 0 ^^^ lo)).set (2 * j + 1) (r.getD (2 * j + 1) 0 ^^^ hi)) = recordPasses r))

/-- Decoding the record of a coded frame gives back exactly the encoder's reconstructions: the record has 80 bytes
and passes its tests, its header holds the letter, the first sample, the initial index and the mean amplitude, and
the 128 decoded samples are the first sample verbatim and the reconstruction after each code (R65 to R71). Codes
stand two to a byte: the code of sample i in byte (i - 1) / 2, low nibble for odd i and high for even i; the last
high nibble is written 0 and not read by a decoding. -/
def Obligations.DecodingGivesTheReconstructions : Prop :=
  (∀ (letter kin : Nat) (x : Int) (xs : List Int), letter < 1024 → kin ≤ 79 → xs.length = 127 →
     (∀ y ∈ x :: xs, isSample y) →
     let r := encodeRecord letter (x :: xs) kin
     r.length = 80 ∧ testRecord r = none ∧ recordKind r = 0x53 ∧ recordStep r = kin ∧ fieldAt r 2 2 = letter ∧
     fieldAt r 6 2 = ((x :: xs).map Int.natAbs).sum / 128 ∧ bytesAt r 8 6 = zeros 6 ∧
     decodeRecord r = x :: reconstructions xs x kin ∧ (∀ y ∈ decodeRecord r, isSample y)) ∧
  ((∀ codes : List Nat, codes.length = 127 → (∀ c ∈ codes, c < 16) →
     (packCodes codes).length = 64 ∧
     (∀ i, 1 ≤ i → i ≤ 127 →
       let b := ((packCodes codes).getD ((i - 1) / 2) 0).toNat
       codes.getD (i - 1) 0 = if i % 2 = 1 then b % 16 else b / 16) ∧
     ((packCodes codes).getD 63 0).toNat / 16 = 0) ∧
   (∀ (r : List Byte) (b : Byte), r.length = 80 → b.toNat % 16 = (r.getD 79 0).toNat % 16 →
     decodeRecord (r.set 79 b) = decodeRecord r) ∧
   (∀ r : List Byte, r.length = 80 → recordPasses r = decide (xorWords (r.take 78) ^^^ (r.getD 79 0 ++ r.getD 78 0) = 0xFFFF)))

/-! ### The engines and the decode cache -/

/-- The arbiter's choice: pressed channels first, then the head decode request when an entry can be claimed, then
unpressed channels, each class of channels from the one after its last-granted pointer (R109, R110). -/
def Obligations.ArbiterOrder : Prop :=
  ∀ s : State, s.pressedPtr ≤ 31 → s.unpressedPtr ≤ 31 →
    let pressed := fun c : Nat => c < 32 ∧ (s.channel c).asks = true ∧ (s.channel c).pressed = true
    let unpressed := fun c : Nat => c < 32 ∧ (s.channel c).asks = true ∧ (s.channel c).pressed = false
    let decodes := s.drq ≠ [] ∧ ∃ e ∈ s.cache, e.st = .empty ∨ ∃ l f xs, e.st = .valid l f xs
    (∀ c, arbiterChoice s = some (.encode c true) ↔
      pressed c ∧ ∀ d, pressed d → searchDistance s.pressedPtr c ≤ searchDistance s.pressedPtr d) ∧
    (arbiterChoice s = some .decode ↔ (∀ d, ¬pressed d) ∧ decodes) ∧
    (∀ c, arbiterChoice s = some (.encode c false) ↔
      (∀ d, ¬pressed d) ∧ ¬decodes ∧ unpressed c ∧
        ∀ d, unpressed d → searchDistance s.unpressedPtr c ≤ searchDistance s.unpressedPtr d)

/-- A grant of an encode job takes the slot that the bin table hands out, fixes the job's inputs and moves the pointer of its
class; without a slot the frame is dropped for BINS, the frames behind it follow it closer, and the engine stays FREE (R47, R75,
R99, R101, R109). A grant command changes nothing when its engine is busy, the part is not RUNNING, or the arbiter's choice is
another claim (R110; log 1). -/
def Obligations.EncodeGrantStartsAJob : Prop :=
  (∀ (e : Fin 2) (c : Nat) (pressed : Bool) (f : FFrame) (q : List FFrame) (s : State),
     s.part = .running → s.engine e = .free → arbiterChoice s = some (.encode c pressed) →
     (s.channel c).queue = f :: q →
     let pointers := fun u : State =>
       u.pressedPtr = (if pressed then c else s.pressedPtr) ∧ u.unpressedPtr = (if pressed then s.unpressedPtr else c)
     (∀ p, s.nextSlot c = some p → NextWith (exec (.encodeGrant e) s) fun u =>
       u.engine e = .coding c f.letter f.buffer ((s.channel c).buffer f.buffer).samples (s.channel c).carried p.1 p.2 ∧
       (∀ d, d ≠ e → u.engine d = s.engine d) ∧ HandedOut c p s u ∧ pointers u ∧
       u.channel c = { s.channel c with queue := { f with stage := .encoding, place := some p } :: q } ∧
       (∀ d, d ≠ c → u.channel d = s.channel d) ∧
       { u with engine0 := s.engine0, engine1 := s.engine1, channels := s.channels, bins := s.bins, freeBins := s.freeBins
                pressedPtr := s.pressedPtr, unpressedPtr := s.unpressedPtr } = s) ∧
     (s.nextSlot c = none → headWaits q → f.place = none → NextWith (exec (.encodeGrant e) s) fun u =>
       u.engine e = .free ∧ u.channel c = (s.channel c).dropped [] f q ∧ (∀ d, d ≠ c → u.channel d = s.channel d) ∧
       DropReported c f .bins s u ∧ pointers u ∧
       { u with channels := s.channels, letters := s.letters
                pressedPtr := s.pressedPtr, unpressedPtr := s.unpressedPtr }.unreported = s.unreported)) ∧
  (∀ (e : Fin 2) (s : State),
     (s.part ≠ .running ∨ s.engine e ≠ .free ∨ (∀ c p, arbiterChoice s ≠ some (.encode c p)) →
       exec (.encodeGrant e) s = .next s) ∧
     (s.part ≠ .running ∨ s.engine e ≠ .free ∨ arbiterChoice s ≠ some .decode → exec (.decodeGrant e) s = .next s))

/-- The end of coding writes the frame's 80-byte record to its slot and keeps the outgoing step index for the channel (R52, R66,
R76). The end of an encode job frees its engine. While RESETTING, with the channel cleared, nothing else changes. Else the buffer
is FREE and the channel carries the outgoing index; with MEMORY the frame is dropped and its slot settled; with OK it is placed at
once, or dropped for the limit it meets; the frames behind a dropped one follow it closer (R48, R54, R77, R81, R100, R101). -/
def Obligations.EncodeJobEnds : Prop :=
  (∀ (e : Fin 2) (c letter buffer kin b sl : Nat) (xs : List Int) (s : State),
     s.engine e = .coding c letter buffer xs kin b sl →
     NextWith (exec (.codingComplete e) s) fun u =>
       u.engine e = .writing c letter buffer kin b sl (encodeFrame xs kin).2 ∧
       (∀ d, d ≠ e → u.engine d = s.engine d) ∧
       u.portOut = s.portOut ++
         [partWrite ((s.cfg.getD default).storeBase + (b * 32 + sl) * 80) (encodeRecord letter xs kin)] ∧
       { u with engine0 := s.engine0, engine1 := s.engine1, portOut := s.portOut } = s) ∧
  (∀ (e : Fin 2) (c letter buffer kin b sl kout : Nat) (code : MemCode) (f : FFrame) (q : List FFrame) (s : State),
     s.engine e = .writing c letter buffer kin b sl kout → (s.channel c).queue = f :: q → headWaits q → f.buffer = buffer →
     f.place = some (b, sl) → f.speech = true → f.cap = none →
     let freed := s.setEngine e .free
     let ch : Channel :=
       { (s.channel c).setBuffer buffer ((s.channel c).buffer buffer).release with carried := kout }
     (s.part ≠ .resetting → code ≠ .okay → NextWith (exec (.encodeJobComplete e code) s) fun u =>
       u.engine e = .free ∧ (∀ d, d ≠ e → u.engine d = s.engine d) ∧
       u.channel c = ch.dropped [] f q ∧ (∀ d, d ≠ c → u.channel d = s.channel d) ∧ DropReported c f .memory s u ∧
       BinBecomes b { s.bin b with inFlight := (s.bin b).inFlight - 1 } s u ∧ u.recMask = freed.recMask) ∧
     (s.part ≠ .resetting → code = .okay → (s.letter f.letter).state = .recording →
       (s.letter f.letter).channel = some c →
       (placeLimit f (s.letter f.letter) s.freeSegs = none →
         exec (.encodeJobComplete e code) s = .next
           (commitPlacement c { f with stage := .ready }
             (freed.setChannel c { ch with queue := { f with stage := .ready } :: q }))) ∧
       (∀ r, placeLimit f (s.letter f.letter) s.freeSegs = some r →
         NextWith (exec (.encodeJobComplete e code) s) fun u =>
           u.engine e = .free ∧ (∀ d, d ≠ e → u.engine d = s.engine d) ∧
           u.channel c = ch.dropped [] f q ∧ (∀ d, d ≠ c → u.channel d = s.channel d) ∧ DropReported c f r s u ∧
           BinBecomes b { s.bin b with inFlight := (s.bin b).inFlight - 1 } s u ∧ u.recMask = freed.recMask))) ∧
  (∀ (e : Fin 2) (c letter buffer kin b sl kout : Nat) (code : MemCode) (s : State),
     s.engine e = .writing c letter buffer kin b sl kout → s.part = .resetting →
     exec (.encodeJobComplete e code) s = .next (s.setEngine e .free))

/-- A grant of the head decode request claims the least recent EMPTY entry, or else the least recent VALID one, and
looks the frame up: a speech frame's slot is read and the entry is FILLING with the request's waiters; any other
frame is VALID at once as silence and its waiters are served (R78, R110, R116). The departure of the request is owed to
the room waiting list if it holds a need (R112, R115; that it is served by ROOM_WAITING_LOOKUP is a reading, log 20). -/
def Obligations.DecodeGrantClaimsAnEntry : Prop :=
  ∀ (e : Fin 2) (r : Request) (q : List Request) (x : CacheEntry) (s : State),
    s.part = .running → s.engine e = .free → arbiterChoice s = some .decode → s.drq = r :: q → cacheNumbered s →
    (s.cache.find? (·.isEmpty) = some x ∨ s.cache.find? (·.isEmpty) = none ∧ s.cache.find? (·.isValid) = some x) →
    let due := if s.room = [] then 0 else s.roomDue + 1
    let cache := fun st : CacheState => (s.cache.filter fun y => decide (y ≠ x)) ++ [{ num := x.num, st := st }]
    (∀ b sl, (s.letter r.letter).lookup r.frame = .speech b sl → NextWith (exec (.decodeGrant e) s) fun u =>
      u.engine e = .reading r.letter r.frame b sl x.num ∧ (∀ d, d ≠ e → u.engine d = s.engine d) ∧
      u.cache = cache (.filling r.letter r.frame b sl r.waiters) ∧ u.drq = q ∧ u.roomDue = due ∧
      u.portOut = s.portOut ++ [partRead ((s.cfg.getD default).storeBase + (b * 32 + sl) * 80) 80] ∧
      { u with engine0 := s.engine0, engine1 := s.engine1, cache := s.cache, drq := s.drq, roomDue := s.roomDue
               portOut := s.portOut } = s) ∧
    ((∀ b sl, (s.letter r.letter).lookup r.frame ≠ .speech b sl) → (r.waiters.map (·.entry)).Nodup →
      (∀ w ∈ r.waiters, w.frame = r.frame) → NextWith (exec (.decodeGrant e) s) fun u =>
      u.cache = cache (.valid r.letter r.frame (List.replicate 128 0)) ∧ u.drq = q ∧ u.roomDue = due ∧
      Served r.waiters r.frame (List.replicate 128 0) s u ∧
      { u with entries := s.entries, cache := s.cache, drq := s.drq, roomDue := s.roomDue } = s)

/-- The answer to a decode job's slot read is tested in the order of R71 and decoded, or fails; only the engine
changes, and holds the result, a failed one too, until DECODE_JOB_COMPLETE (R71, R79; that the two are two steps is the
model's reading, log 32). A decode job completes into its FILLING entry: GOOD makes it VALID with the samples, DAMAGED
VALID as silence with the letter marked and FRAME_DAMAGED, MEMORY makes it EMPTY with MEMORY_FAULT; the waiters are
served in each case (R117, R119). A decode job completes into a STALE entry: the entry is EMPTY and the result
discarded, a MEMORY result is announced, and the waiters are looked up again (R117). -/
def Obligations.DecodeJobEnds : Prop :=
  (∀ (e : Fin 2) (l f b sl num : Nat) (code : MemCode) (data : List Byte) (s : State),
     s.engine e = .reading l f b sl num → answerWf 80 code data = true →
     NextWith (exec (.decodeReadAnswer e code data) s) fun u =>
       (∀ d, d ≠ e → u.engine d = s.engine d) ∧ { u with engine0 := s.engine0, engine1 := s.engine1 } = s ∧
       (code ≠ .okay → u.engine e = .decoding l f b sl num .memory) ∧
       (code = .okay →
         (recordKind data ≠ 0x53 → u.engine e = .decoding l f b sl num (.damaged .kind)) ∧
         (recordKind data = 0x53 →
           (79 < recordStep data → u.engine e = .decoding l f b sl num (.damaged .step)) ∧
           (recordStep data ≤ 79 →
             (xorWords data ≠ 0xFFFF → u.engine e = .decoding l f b sl num (.damaged .check)) ∧
             (xorWords data = 0xFFFF → u.engine e = .decoding l f b sl num (.good (decodeRecord data))))))) ∧
  (∀ (e : Fin 2) (l f b sl num : Nat) (r : DecResult) (key : Nat × Nat × Nat × Nat) (ws : List Need) (s : State),
     s.engine e = .decoding l f b sl num r → cacheNumbered s →
     { num := num, st := CacheState.filling key.1 key.2.1 key.2.2.1 key.2.2.2 ws } ∈ s.cache →
     (ws.map (·.entry)).Nodup → (∀ w ∈ ws, w.frame = f) →
     let xs := match r with
       | .good ys => ys
       | .damaged _ => List.replicate 128 0
       | .memory => List.replicate 128 0
     let damaged := match r with
       | .good _ => false
       | .damaged _ => true
       | .memory => false
     let others := s.cache.filter fun y => decide (y.num ≠ num)
     NextWith (exec (.decodeJobComplete e) s) fun u =>
       u.engine e = .free ∧ (∀ d, d ≠ e → u.engine d = s.engine d) ∧ Served ws f xs s u ∧
       u.cache = (if r = .memory then { num := num, st := .empty } :: others
                  else others ++ [{ num := num, st := .valid l f xs }]) ∧
       (∀ m, u.letter m =
         if m = l ∧ damaged = true ∧ (s.letter m).state ≠ .free then { s.letter m with damaged := true }
         else s.letter m) ∧
       (∀ c, r = .damaged c → s.canPost → Announces (frameDamaged l f b sl c) s u) ∧
       (r = .memory → s.canPost → Announces (memoryFault l f b sl) s u) ∧
       (∀ ys, r = .good ys → u.portOut = s.portOut ∧ u.prod = s.prod) ∧
       { u with engine0 := s.engine0, engine1 := s.engine1, cache := s.cache, entries := s.entries
                letters := s.letters }.unreported = s.unreported) ∧
  (∀ (e : Fin 2) (l f b sl num : Nat) (r : DecResult) (key : Nat × Nat × Nat × Nat) (ws : List Need) (s : State),
     s.engine e = .decoding l f b sl num r → cacheNumbered s →
     { num := num, st := CacheState.stale key.1 key.2.1 key.2.2.1 key.2.2.2 ws } ∈ s.cache →
     let emptied : State :=
       { s.setEngine e .free with
         cache := { num := num, st := .empty } :: s.cache.filter fun y => decide (y.num ≠ num) }
     NextWith (exec (.decodeJobComplete e) s) fun u =>
       u.engine e = .free ∧ u.unreported = (lookupAll ws emptied).unreported ∧ u.letters = s.letters ∧
       (ws = [] → u.unreported = emptied.unreported) ∧
       (r = .memory → s.canPost → Announces (memoryFault l f b sl) s u) ∧
       (r ≠ .memory → u.portOut = s.portOut ∧ u.prod = s.prod))

/-- ROOM_WAITING_LOOKUP serves the room waiting list for one departed request, whether or not the queue is full again. The
head need is looked up as R114 gives: if it makes a request it leaves the list and the service ends; if it finds the queue
full it stays at the head and the service ends; and in every other case it leaves the list and the next need is taken in
the same way (R114, R115). With an empty list or no departure to serve the command leaves the state unchanged (the model's
choice, log 1). That each departure is served once, in a step of its own, is the model's reading (log 20). -/
def Obligations.RoomWaitingIsServed : Prop :=
  ∀ s : State,
    (s.room = [] ∨ s.roomDue = 0 → exec .roomWaitingLookup s = .next s) ∧
    (s.room ≠ [] → 0 < s.roomDue → NextWith (exec .roomWaitingLookup s) fun u =>
      u.roomDue + 1 = s.roomDue ∧ (∃ served, s.room = served ++ u.room) ∧ u.readMask = s.readMask) ∧
    (∀ w rest, s.room = w :: rest → 0 < s.roomDue →
      let settles := s.cache.any (CacheEntry.validFor w.letter w.frame) = true ∨
        s.cache.any (CacheEntry.fillingFor w.letter w.frame) = true ∨ s.drq.any (Request.isFor w.letter w.frame) = true
      let new : Request := { letter := w.letter, frame := w.frame, urgent := (s.letter w.letter).urgent, waiters := [w] }
      (¬settles → 64 ≤ s.drq.length → exec .roomWaitingLookup s = .next { s with roomDue := s.roomDue - 1 }) ∧
      (¬settles → s.drq.length < 64 → exec .roomWaitingLookup s = .next
        { s with
          room := rest, roomDue := s.roomDue - 1
          drq := if new.urgent then s.drq.takeWhile (·.urgent) ++ new :: s.drq.dropWhile (·.urgent)
                 else s.drq ++ [new] }) ∧
      (settles →
        let v : State := { lookupNeed s w with room := rest }
        (rest = [] → exec .roomWaitingLookup s = .next { v with roomDue := s.roomDue - 1 }) ∧
        (rest ≠ [] → exec .roomWaitingLookup s = exec .roomWaitingLookup v)))

/-! ### Reporting and records -/

/-- What a post does: nothing while UNCONFIGURED; into a full ring it is counted, up to 65535, and sets the overflow flag; with
room it is written at P with its loud mark, after the NOTICES_LOST of an outstanding overflow, which is written with its own loud
mark; the status block follows (R178, R180). -/
def Obligations.PostingANotice : Prop :=
  ∀ (n : Notice) (s : State),
    let size := (s.cfg.getD default).ringSize
    let base := (s.cfg.getD default).ringBase
    let full := fun p : Nat => (p + 1) % size = s.consCopy.toNat % size
    let loudOf := fun k : NoticeKind => !(s.cfg.getD default).quiet.getLsbD k.code
    let lostNotice := (noticesLost s.lost).bytes s.tsc
    let u := post n s
    (s.part = .unconfigured → u = s) ∧
    (s.part ≠ .unconfigured →
      u.unreported = s.unreported ∧
      (full s.prod →
        u.prod = s.prod ∧ u.overflow = true ∧ u.lost = min (s.lost + 1) 65535 ∧ u.loud = s.loud ∧
        u.portOut = s.portOut ++ [partWrite (s.cp + 0x80) u.statusBytes]) ∧
      (¬full s.prod → s.overflow = false →
        u.prod = (s.prod + 1) % size ∧ u.overflow = false ∧ u.lost = s.lost ∧
        (∀ i, u.loudMark i = if i = s.prod then loudOf n.kind else s.loudMark i) ∧
        u.portOut = s.portOut ++
          [partWrite (base + 64 * s.prod) (n.bytes s.tsc), partWrite (s.cp + 0x80) u.statusBytes]) ∧
      (¬full s.prod → s.overflow = true →
        let next := (s.prod + 1) % size
        (¬full next →
          u.prod = (next + 1) % size ∧ u.overflow = false ∧ u.lost = 0 ∧
          (∀ i, u.loudMark i = if i = next then loudOf n.kind else if i = s.prod then loudOf .noticesLost
                               else s.loudMark i) ∧
          u.portOut = s.portOut ++
            [partWrite (base + 64 * s.prod) lostNotice, partWrite (base + 64 * next) (n.bytes s.tsc),
             partWrite (s.cp + 0x80) u.statusBytes]) ∧
        (full next →
          u.prod = next ∧ u.overflow = true ∧ u.lost = 1 ∧
          (∀ i, u.loudMark i = if i = s.prod then loudOf .noticesLost else s.loudMark i) ∧
          u.portOut = s.portOut ++
            [partWrite (base + 64 * s.prod) lostNotice, partWrite (s.cp + 0x80) u.statusBytes])))

/-- The loud count is the number of marked slots from the consumer copy up to P - 1, a loud notice that is written
raises it by 1 and a quiet one leaves it, and the line is high exactly while the part is configured, the interrupt
is enabled and the count is above 0 (R179). -/
def Obligations.LoudCountAndLine : Prop :=
  ∀ (n : Notice) (s : State), s.ringSize ≠ 0 → s.prod < s.ringSize →
    (s.irq = true ↔ s.part ≠ .unconfigured ∧ (s.cfg.getD default).irqEnable = true ∧ 0 < s.loudCount) ∧
    s.loudCount =
      ((List.range s.ringSize).filter fun i =>
        decide ((i + s.ringSize - s.consIdx) % s.ringSize < (s.prod + s.ringSize - s.consIdx) % s.ringSize) &&
          s.loudMark i).length ∧
    (s.canPost → (post n s).loudCount = s.loudCount + if s.isLoud n.kind then 1 else 0) ∧
    (s.canPost → (post n s).prod = (s.prod + 1) % s.ringSize) ∧
    (s.consIdx = s.prod → s.irq = false) ∧ State.reset.irq = false

/-- Every ring command is read back from its 32-byte record, whatever its operands (R174, Table 10-5). -/
def Obligations.CommandRecordsAgree : Prop :=
  ∀ (c : Instr) (r : List Byte), recordOfCommand c = some r → c.wf = true →
    r.length = 32 ∧ commandOfRecord r = c

/-! ### Invariants of every step -/

/-- Every step keeps the tables canonical and the registers in their ranges. -/
def Obligations.RegistersStayInRange : Prop :=
  StepKeeps RegistersOk

/-- Every step keeps the decode cache and its queue sound. -/
def Obligations.DecodeCacheStaysSound : Prop :=
  StepKeeps CacheOk

/-- Every step keeps letters, channels and cursors in agreement. Every step keeps the targets of the cursors at
their next candidate. -/
def Obligations.AttachmentsStayJoined : Prop :=
  (StepKeeps JoinedOk) ∧
  (StepKeeps fun s => JoinedOk s ∧ TargetsOk s)

/-- Every step conserves the segment pool. Every step conserves the cue pool and keeps the cue lists in order. Every
step keeps the bin table and the free bin list sound. -/
def Obligations.PoolsAndBinTableStaySound : Prop :=
  (StepKeeps SegmentsOk) ∧
  (StepKeeps CuesOk) ∧
  (StepKeeps BinsOk)

/-- Every step keeps the transaction table sound: a response exactly in READY and of the entry's outcome, held writes in the
lists of their channels, the needs of waiting reads at their entries, requests or in the room waiting list, and slot reads
with their reads, beside the attachments and the decode cache that this rests on. -/
def Obligations.TransactionsStaySound : Prop :=
  StepKeeps fun s => JoinedOk s ∧ CacheOk s ∧ EntriesOk s

/-- Every step keeps the letter records and the finished queues sound: a letter's length is its speech and hush frames and
the frames of its segment list, every segment is within its bounds, and the targets of a queue count up to the edit point,
beside the attachments and the bin table that this rests on. -/
def Obligations.LetterRecordsStaySound : Prop :=
  StepKeeps fun s => JoinedOk s ∧ BinsOk s ∧ QueuesOk s ∧ LettersOk s

/-- Every step keeps the frame buffers sound: at most one FILLING, with 1 to 127 samples of the current run, at most two frames
in a finished queue, each in a buffer of its own, and outside RESETTING each encode job and each import's slot write for a frame
of its channel's queue (R85, R86, R97, R100), beside the invariants that this rests on. -/
def Obligations.FrameBuffersStaySound : Prop :=
  StepKeeps fun s =>
    JoinedOk s ∧ CacheOk s ∧ EntriesOk s ∧ BinsOk s ∧ QueuesOk s ∧ LettersOk s ∧ StoreIdle s ∧ CountsOk s ∧ BuffersOk s

/-- Every step keeps the counts of the bins: live is the number of letter frames in a bin's slots, in flight the number of
its slots in finished queues, reads in flight the number of reads that wait on it while the part is not RESETTING, and no
slot is in use twice, beside the invariants that this rests on. -/
def Obligations.BinCountsStaySound : Prop :=
  StepKeeps fun s =>
    JoinedOk s ∧ CacheOk s ∧ EntriesOk s ∧ BinsOk s ∧ QueuesOk s ∧ LettersOk s ∧ StoreIdle s ∧ CountsOk s

/-- The state after power-on reset meets every invariant. -/
def Obligations.ResetMeetsTheInvariants : Prop :=
  RegistersOk State.reset ∧ CacheOk State.reset ∧ JoinedOk State.reset ∧ TargetsOk State.reset ∧
    SegmentsOk State.reset ∧ CuesOk State.reset ∧ BinsOk State.reset ∧ EntriesOk State.reset ∧ QueuesOk State.reset ∧
    LettersOk State.reset ∧ StoreIdle State.reset ∧ CountsOk State.reset ∧ BuffersOk State.reset

end
end

