-- ==== Sys2Proof/Laws/State.lean ====
section
/-! SUPPORT. What each update of the state leaves in each of its fields: one lemma per field per update. -/

namespace Sys2Proof.Machine

open Sys2Proof

/-! ### State.setLetter -/

@[simp] theorem State.setLetter_pending (s : State) (n : Nat) (l : Letter) :
    (s.setLetter n l).pending = s.pending := rfl
@[simp] theorem State.setLetter_resetPin (s : State) (n : Nat) (l : Letter) :
    (s.setLetter n l).resetPin = s.resetPin := rfl
@[simp] theorem State.setLetter_linkResetPin (s : State) (n : Nat) (l : Letter) :
    (s.setLetter n l).linkResetPin = s.linkResetPin := rfl
@[simp] theorem State.setLetter_cpsel (s : State) (n : Nat) (l : Letter) : (s.setLetter n l).cpsel = s.cpsel := rfl
@[simp] theorem State.setLetter_tsc (s : State) (n : Nat) (l : Letter) : (s.setLetter n l).tsc = s.tsc := rfl
@[simp] theorem State.setLetter_part (s : State) (n : Nat) (l : Letter) : (s.setLetter n l).part = s.part := rfl
@[simp] theorem State.setLetter_cfg (s : State) (n : Nat) (l : Letter) : (s.setLetter n l).cfg = s.cfg := rfl
@[simp] theorem State.setLetter_prodCopy (s : State) (n : Nat) (l : Letter) :
    (s.setLetter n l).prodCopy = s.prodCopy := rfl
@[simp] theorem State.setLetter_consumer (s : State) (n : Nat) (l : Letter) :
    (s.setLetter n l).consumer = s.consumer := rfl
@[simp] theorem State.setLetter_fetching (s : State) (n : Nat) (l : Letter) :
    (s.setLetter n l).fetching = s.fetching := rfl
@[simp] theorem State.setLetter_cfgPending (s : State) (n : Nat) (l : Letter) :
    (s.setLetter n l).cfgPending = s.cfgPending := rfl
@[simp] theorem State.setLetter_lastResult (s : State) (n : Nat) (l : Letter) :
    (s.setLetter n l).lastResult = s.lastResult := rfl
@[simp] theorem State.setLetter_lastSlot (s : State) (n : Nat) (l : Letter) :
    (s.setLetter n l).lastSlot = s.lastSlot := rfl
@[simp] theorem State.setLetter_poolRun (s : State) (n : Nat) (l : Letter) :
    (s.setLetter n l).poolRun = s.poolRun := rfl
@[simp] theorem State.setLetter_consCopy (s : State) (n : Nat) (l : Letter) :
    (s.setLetter n l).consCopy = s.consCopy := rfl
@[simp] theorem State.setLetter_prod (s : State) (n : Nat) (l : Letter) : (s.setLetter n l).prod = s.prod := rfl
@[simp] theorem State.setLetter_overflow (s : State) (n : Nat) (l : Letter) :
    (s.setLetter n l).overflow = s.overflow := rfl
@[simp] theorem State.setLetter_lost (s : State) (n : Nat) (l : Letter) : (s.setLetter n l).lost = s.lost := rfl
@[simp] theorem State.setLetter_loud (s : State) (n : Nat) (l : Letter) : (s.setLetter n l).loud = s.loud := rfl
@[simp] theorem State.setLetter_entries (s : State) (n : Nat) (l : Letter) :
    (s.setLetter n l).entries = s.entries := rfl
@[simp] theorem State.setLetter_nextRank (s : State) (n : Nat) (l : Letter) :
    (s.setLetter n l).nextRank = s.nextRank := rfl
@[simp] theorem State.setLetter_letters (s : State) (n : Nat) (l : Letter) :
    (s.setLetter n l).letters = Tab.set Letter.free s.letters n l := rfl
@[simp] theorem State.setLetter_longs (s : State) (n : Nat) (l : Letter) : (s.setLetter n l).longs = s.longs := rfl
@[simp] theorem State.setLetter_freeSegs (s : State) (n : Nat) (l : Letter) :
    (s.setLetter n l).freeSegs = s.freeSegs := rfl
@[simp] theorem State.setLetter_freeCues (s : State) (n : Nat) (l : Letter) :
    (s.setLetter n l).freeCues = s.freeCues := rfl
@[simp] theorem State.setLetter_binCount (s : State) (n : Nat) (l : Letter) :
    (s.setLetter n l).binCount = s.binCount := rfl
@[simp] theorem State.setLetter_bins (s : State) (n : Nat) (l : Letter) : (s.setLetter n l).bins = s.bins := rfl
@[simp] theorem State.setLetter_freeBins (s : State) (n : Nat) (l : Letter) :
    (s.setLetter n l).freeBins = s.freeBins := rfl
@[simp] theorem State.setLetter_channels (s : State) (n : Nat) (l : Letter) :
    (s.setLetter n l).channels = s.channels := rfl
@[simp] theorem State.setLetter_engine0 (s : State) (n : Nat) (l : Letter) :
    (s.setLetter n l).engine0 = s.engine0 := rfl
@[simp] theorem State.setLetter_engine1 (s : State) (n : Nat) (l : Letter) :
    (s.setLetter n l).engine1 = s.engine1 := rfl
@[simp] theorem State.setLetter_pressedPtr (s : State) (n : Nat) (l : Letter) :
    (s.setLetter n l).pressedPtr = s.pressedPtr := rfl
@[simp] theorem State.setLetter_unpressedPtr (s : State) (n : Nat) (l : Letter) :
    (s.setLetter n l).unpressedPtr = s.unpressedPtr := rfl
@[simp] theorem State.setLetter_cache (s : State) (n : Nat) (l : Letter) : (s.setLetter n l).cache = s.cache := rfl
@[simp] theorem State.setLetter_drq (s : State) (n : Nat) (l : Letter) : (s.setLetter n l).drq = s.drq := rfl
@[simp] theorem State.setLetter_room (s : State) (n : Nat) (l : Letter) : (s.setLetter n l).room = s.room := rfl
@[simp] theorem State.setLetter_roomDue (s : State) (n : Nat) (l : Letter) :
    (s.setLetter n l).roomDue = s.roomDue := rfl
@[simp] theorem State.setLetter_cursors (s : State) (n : Nat) (l : Letter) :
    (s.setLetter n l).cursors = s.cursors := rfl
@[simp] theorem State.setLetter_raw (s : State) (n : Nat) (l : Letter) : (s.setLetter n l).raw = s.raw := rfl
@[simp] theorem State.setLetter_freeIdx (s : State) (n : Nat) (l : Letter) :
    (s.setLetter n l).freeIdx = s.freeIdx := rfl
@[simp] theorem State.setLetter_portOut (s : State) (n : Nat) (l : Letter) :
    (s.setLetter n l).portOut = s.portOut := rfl
@[simp] theorem State.setLetter_linkOut (s : State) (n : Nat) (l : Letter) :
    (s.setLetter n l).linkOut = s.linkOut := rfl

/-! ### State.setChannel -/

@[simp] theorem State.setChannel_pending (s : State) (c : Nat) (ch : Channel) :
    (s.setChannel c ch).pending = s.pending := rfl
@[simp] theorem State.setChannel_resetPin (s : State) (c : Nat) (ch : Channel) :
    (s.setChannel c ch).resetPin = s.resetPin := rfl
@[simp] theorem State.setChannel_linkResetPin (s : State) (c : Nat) (ch : Channel) :
    (s.setChannel c ch).linkResetPin = s.linkResetPin := rfl
@[simp] theorem State.setChannel_cpsel (s : State) (c : Nat) (ch : Channel) :
    (s.setChannel c ch).cpsel = s.cpsel := rfl
@[simp] theorem State.setChannel_tsc (s : State) (c : Nat) (ch : Channel) : (s.setChannel c ch).tsc = s.tsc := rfl
@[simp] theorem State.setChannel_part (s : State) (c : Nat) (ch : Channel) : (s.setChannel c ch).part = s.part := rfl
@[simp] theorem State.setChannel_cfg (s : State) (c : Nat) (ch : Channel) : (s.setChannel c ch).cfg = s.cfg := rfl
@[simp] theorem State.setChannel_prodCopy (s : State) (c : Nat) (ch : Channel) :
    (s.setChannel c ch).prodCopy = s.prodCopy := rfl
@[simp] theorem State.setChannel_consumer (s : State) (c : Nat) (ch : Channel) :
    (s.setChannel c ch).consumer = s.consumer := rfl
@[simp] theorem State.setChannel_fetching (s : State) (c : Nat) (ch : Channel) :
    (s.setChannel c ch).fetching = s.fetching := rfl
@[simp] theorem State.setChannel_cfgPending (s : State) (c : Nat) (ch : Channel) :
    (s.setChannel c ch).cfgPending = s.cfgPending := rfl
@[simp] theorem State.setChannel_lastResult (s : State) (c : Nat) (ch : Channel) :
    (s.setChannel c ch).lastResult = s.lastResult := rfl
@[simp] theorem State.setChannel_lastSlot (s : State) (c : Nat) (ch : Channel) :
    (s.setChannel c ch).lastSlot = s.lastSlot := rfl
@[simp] theorem State.setChannel_poolRun (s : State) (c : Nat) (ch : Channel) :
    (s.setChannel c ch).poolRun = s.poolRun := rfl
@[simp] theorem State.setChannel_consCopy (s : State) (c : Nat) (ch : Channel) :
    (s.setChannel c ch).consCopy = s.consCopy := rfl
@[simp] theorem State.setChannel_prod (s : State) (c : Nat) (ch : Channel) : (s.setChannel c ch).prod = s.prod := rfl
@[simp] theorem State.setChannel_overflow (s : State) (c : Nat) (ch : Channel) :
    (s.setChannel c ch).overflow = s.overflow := rfl
@[simp] theorem State.setChannel_lost (s : State) (c : Nat) (ch : Channel) : (s.setChannel c ch).lost = s.lost := rfl
@[simp] theorem State.setChannel_loud (s : State) (c : Nat) (ch : Channel) : (s.setChannel c ch).loud = s.loud := rfl
@[simp] theorem State.setChannel_entries (s : State) (c : Nat) (ch : Channel) :
    (s.setChannel c ch).entries = s.entries := rfl
@[simp] theorem State.setChannel_nextRank (s : State) (c : Nat) (ch : Channel) :
    (s.setChannel c ch).nextRank = s.nextRank := rfl
@[simp] theorem State.setChannel_letters (s : State) (c : Nat) (ch : Channel) :
    (s.setChannel c ch).letters = s.letters := rfl
@[simp] theorem State.setChannel_longs (s : State) (c : Nat) (ch : Channel) :
    (s.setChannel c ch).longs = s.longs := rfl
@[simp] theorem State.setChannel_freeSegs (s : State) (c : Nat) (ch : Channel) :
    (s.setChannel c ch).freeSegs = s.freeSegs := rfl
@[simp] theorem State.setChannel_freeCues (s : State) (c : Nat) (ch : Channel) :
    (s.setChannel c ch).freeCues = s.freeCues := rfl
@[simp] theorem State.setChannel_binCount (s : State) (c : Nat) (ch : Channel) :
    (s.setChannel c ch).binCount = s.binCount := rfl
@[simp] theorem State.setChannel_bins (s : State) (c : Nat) (ch : Channel) : (s.setChannel c ch).bins = s.bins := rfl
@[simp] theorem State.setChannel_freeBins (s : State) (c : Nat) (ch : Channel) :
    (s.setChannel c ch).freeBins = s.freeBins := rfl
@[simp] theorem State.setChannel_channels (s : State) (c : Nat) (ch : Channel) :
    (s.setChannel c ch).channels = Tab.set Channel.initial s.channels c ch := rfl
@[simp] theorem State.setChannel_engine0 (s : State) (c : Nat) (ch : Channel) :
    (s.setChannel c ch).engine0 = s.engine0 := rfl
@[simp] theorem State.setChannel_engine1 (s : State) (c : Nat) (ch : Channel) :
    (s.setChannel c ch).engine1 = s.engine1 := rfl
@[simp] theorem State.setChannel_pressedPtr (s : State) (c : Nat) (ch : Channel) :
    (s.setChannel c ch).pressedPtr = s.pressedPtr := rfl
@[simp] theorem State.setChannel_unpressedPtr (s : State) (c : Nat) (ch : Channel) :
    (s.setChannel c ch).unpressedPtr = s.unpressedPtr := rfl
@[simp] theorem State.setChannel_cache (s : State) (c : Nat) (ch : Channel) :
    (s.setChannel c ch).cache = s.cache := rfl
@[simp] theorem State.setChannel_drq (s : State) (c : Nat) (ch : Channel) : (s.setChannel c ch).drq = s.drq := rfl
@[simp] theorem State.setChannel_room (s : State) (c : Nat) (ch : Channel) : (s.setChannel c ch).room = s.room := rfl
@[simp] theorem State.setChannel_roomDue (s : State) (c : Nat) (ch : Channel) :
    (s.setChannel c ch).roomDue = s.roomDue := rfl
@[simp] theorem State.setChannel_cursors (s : State) (c : Nat) (ch : Channel) :
    (s.setChannel c ch).cursors = s.cursors := rfl
@[simp] theorem State.setChannel_raw (s : State) (c : Nat) (ch : Channel) : (s.setChannel c ch).raw = s.raw := rfl
@[simp] theorem State.setChannel_freeIdx (s : State) (c : Nat) (ch : Channel) :
    (s.setChannel c ch).freeIdx = s.freeIdx := rfl
@[simp] theorem State.setChannel_portOut (s : State) (c : Nat) (ch : Channel) :
    (s.setChannel c ch).portOut = s.portOut := rfl
@[simp] theorem State.setChannel_linkOut (s : State) (c : Nat) (ch : Channel) :
    (s.setChannel c ch).linkOut = s.linkOut := rfl

/-! ### State.setCursor -/

@[simp] theorem State.setCursor_pending (s : State) (c : Nat) (k : Cursor) :
    (s.setCursor c k).pending = s.pending := rfl
@[simp] theorem State.setCursor_resetPin (s : State) (c : Nat) (k : Cursor) :
    (s.setCursor c k).resetPin = s.resetPin := rfl
@[simp] theorem State.setCursor_linkResetPin (s : State) (c : Nat) (k : Cursor) :
    (s.setCursor c k).linkResetPin = s.linkResetPin := rfl
@[simp] theorem State.setCursor_cpsel (s : State) (c : Nat) (k : Cursor) : (s.setCursor c k).cpsel = s.cpsel := rfl
@[simp] theorem State.setCursor_tsc (s : State) (c : Nat) (k : Cursor) : (s.setCursor c k).tsc = s.tsc := rfl
@[simp] theorem State.setCursor_part (s : State) (c : Nat) (k : Cursor) : (s.setCursor c k).part = s.part := rfl
@[simp] theorem State.setCursor_cfg (s : State) (c : Nat) (k : Cursor) : (s.setCursor c k).cfg = s.cfg := rfl
@[simp] theorem State.setCursor_prodCopy (s : State) (c : Nat) (k : Cursor) :
    (s.setCursor c k).prodCopy = s.prodCopy := rfl
@[simp] theorem State.setCursor_consumer (s : State) (c : Nat) (k : Cursor) :
    (s.setCursor c k).consumer = s.consumer := rfl
@[simp] theorem State.setCursor_fetching (s : State) (c : Nat) (k : Cursor) :
    (s.setCursor c k).fetching = s.fetching := rfl
@[simp] theorem State.setCursor_cfgPending (s : State) (c : Nat) (k : Cursor) :
    (s.setCursor c k).cfgPending = s.cfgPending := rfl
@[simp] theorem State.setCursor_lastResult (s : State) (c : Nat) (k : Cursor) :
    (s.setCursor c k).lastResult = s.lastResult := rfl
@[simp] theorem State.setCursor_lastSlot (s : State) (c : Nat) (k : Cursor) :
    (s.setCursor c k).lastSlot = s.lastSlot := rfl
@[simp] theorem State.setCursor_poolRun (s : State) (c : Nat) (k : Cursor) :
    (s.setCursor c k).poolRun = s.poolRun := rfl
@[simp] theorem State.setCursor_consCopy (s : State) (c : Nat) (k : Cursor) :
    (s.setCursor c k).consCopy = s.consCopy := rfl
@[simp] theorem State.setCursor_prod (s : State) (c : Nat) (k : Cursor) : (s.setCursor c k).prod = s.prod := rfl
@[simp] theorem State.setCursor_overflow (s : State) (c : Nat) (k : Cursor) :
    (s.setCursor c k).overflow = s.overflow := rfl
@[simp] theorem State.setCursor_lost (s : State) (c : Nat) (k : Cursor) : (s.setCursor c k).lost = s.lost := rfl
@[simp] theorem State.setCursor_loud (s : State) (c : Nat) (k : Cursor) : (s.setCursor c k).loud = s.loud := rfl
@[simp] theorem State.setCursor_entries (s : State) (c : Nat) (k : Cursor) :
    (s.setCursor c k).entries = s.entries := rfl
@[simp] theorem State.setCursor_nextRank (s : State) (c : Nat) (k : Cursor) :
    (s.setCursor c k).nextRank = s.nextRank := rfl
@[simp] theorem State.setCursor_letters (s : State) (c : Nat) (k : Cursor) :
    (s.setCursor c k).letters = s.letters := rfl
@[simp] theorem State.setCursor_longs (s : State) (c : Nat) (k : Cursor) : (s.setCursor c k).longs = s.longs := rfl
@[simp] theorem State.setCursor_freeSegs (s : State) (c : Nat) (k : Cursor) :
    (s.setCursor c k).freeSegs = s.freeSegs := rfl
@[simp] theorem State.setCursor_freeCues (s : State) (c : Nat) (k : Cursor) :
    (s.setCursor c k).freeCues = s.freeCues := rfl
@[simp] theorem State.setCursor_binCount (s : State) (c : Nat) (k : Cursor) :
    (s.setCursor c k).binCount = s.binCount := rfl
@[simp] theorem State.setCursor_bins (s : State) (c : Nat) (k : Cursor) : (s.setCursor c k).bins = s.bins := rfl
@[simp] theorem State.setCursor_freeBins (s : State) (c : Nat) (k : Cursor) :
    (s.setCursor c k).freeBins = s.freeBins := rfl
@[simp] theorem State.setCursor_channels (s : State) (c : Nat) (k : Cursor) :
    (s.setCursor c k).channels = s.channels := rfl
@[simp] theorem State.setCursor_engine0 (s : State) (c : Nat) (k : Cursor) :
    (s.setCursor c k).engine0 = s.engine0 := rfl
@[simp] theorem State.setCursor_engine1 (s : State) (c : Nat) (k : Cursor) :
    (s.setCursor c k).engine1 = s.engine1 := rfl
@[simp] theorem State.setCursor_pressedPtr (s : State) (c : Nat) (k : Cursor) :
    (s.setCursor c k).pressedPtr = s.pressedPtr := rfl
@[simp] theorem State.setCursor_unpressedPtr (s : State) (c : Nat) (k : Cursor) :
    (s.setCursor c k).unpressedPtr = s.unpressedPtr := rfl
@[simp] theorem State.setCursor_cache (s : State) (c : Nat) (k : Cursor) : (s.setCursor c k).cache = s.cache := rfl
@[simp] theorem State.setCursor_drq (s : State) (c : Nat) (k : Cursor) : (s.setCursor c k).drq = s.drq := rfl
@[simp] theorem State.setCursor_room (s : State) (c : Nat) (k : Cursor) : (s.setCursor c k).room = s.room := rfl
@[simp] theorem State.setCursor_roomDue (s : State) (c : Nat) (k : Cursor) :
    (s.setCursor c k).roomDue = s.roomDue := rfl
@[simp] theorem State.setCursor_cursors (s : State) (c : Nat) (k : Cursor) :
    (s.setCursor c k).cursors = Tab.set Cursor.initial s.cursors c k := rfl
@[simp] theorem State.setCursor_raw (s : State) (c : Nat) (k : Cursor) : (s.setCursor c k).raw = s.raw := rfl
@[simp] theorem State.setCursor_freeIdx (s : State) (c : Nat) (k : Cursor) :
    (s.setCursor c k).freeIdx = s.freeIdx := rfl
@[simp] theorem State.setCursor_portOut (s : State) (c : Nat) (k : Cursor) :
    (s.setCursor c k).portOut = s.portOut := rfl
@[simp] theorem State.setCursor_linkOut (s : State) (c : Nat) (k : Cursor) :
    (s.setCursor c k).linkOut = s.linkOut := rfl

/-! ### State.setBin -/

@[simp] theorem State.setBin_pending (s : State) (b : Nat) (r : Bin) : (s.setBin b r).pending = s.pending := rfl
@[simp] theorem State.setBin_resetPin (s : State) (b : Nat) (r : Bin) : (s.setBin b r).resetPin = s.resetPin := rfl
@[simp] theorem State.setBin_linkResetPin (s : State) (b : Nat) (r : Bin) :
    (s.setBin b r).linkResetPin = s.linkResetPin := rfl
@[simp] theorem State.setBin_cpsel (s : State) (b : Nat) (r : Bin) : (s.setBin b r).cpsel = s.cpsel := rfl
@[simp] theorem State.setBin_tsc (s : State) (b : Nat) (r : Bin) : (s.setBin b r).tsc = s.tsc := rfl
@[simp] theorem State.setBin_part (s : State) (b : Nat) (r : Bin) : (s.setBin b r).part = s.part := rfl
@[simp] theorem State.setBin_cfg (s : State) (b : Nat) (r : Bin) : (s.setBin b r).cfg = s.cfg := rfl
@[simp] theorem State.setBin_prodCopy (s : State) (b : Nat) (r : Bin) : (s.setBin b r).prodCopy = s.prodCopy := rfl
@[simp] theorem State.setBin_consumer (s : State) (b : Nat) (r : Bin) : (s.setBin b r).consumer = s.consumer := rfl
@[simp] theorem State.setBin_fetching (s : State) (b : Nat) (r : Bin) : (s.setBin b r).fetching = s.fetching := rfl
@[simp] theorem State.setBin_cfgPending (s : State) (b : Nat) (r : Bin) :
    (s.setBin b r).cfgPending = s.cfgPending := rfl
@[simp] theorem State.setBin_lastResult (s : State) (b : Nat) (r : Bin) :
    (s.setBin b r).lastResult = s.lastResult := rfl
@[simp] theorem State.setBin_lastSlot (s : State) (b : Nat) (r : Bin) : (s.setBin b r).lastSlot = s.lastSlot := rfl
@[simp] theorem State.setBin_poolRun (s : State) (b : Nat) (r : Bin) : (s.setBin b r).poolRun = s.poolRun := rfl
@[simp] theorem State.setBin_consCopy (s : State) (b : Nat) (r : Bin) : (s.setBin b r).consCopy = s.consCopy := rfl
@[simp] theorem State.setBin_prod (s : State) (b : Nat) (r : Bin) : (s.setBin b r).prod = s.prod := rfl
@[simp] theorem State.setBin_overflow (s : State) (b : Nat) (r : Bin) : (s.setBin b r).overflow = s.overflow := rfl
@[simp] theorem State.setBin_lost (s : State) (b : Nat) (r : Bin) : (s.setBin b r).lost = s.lost := rfl
@[simp] theorem State.setBin_loud (s : State) (b : Nat) (r : Bin) : (s.setBin b r).loud = s.loud := rfl
@[simp] theorem State.setBin_entries (s : State) (b : Nat) (r : Bin) : (s.setBin b r).entries = s.entries := rfl
@[simp] theorem State.setBin_nextRank (s : State) (b : Nat) (r : Bin) : (s.setBin b r).nextRank = s.nextRank := rfl
@[simp] theorem State.setBin_letters (s : State) (b : Nat) (r : Bin) : (s.setBin b r).letters = s.letters := rfl
@[simp] theorem State.setBin_longs (s : State) (b : Nat) (r : Bin) : (s.setBin b r).longs = s.longs := rfl
@[simp] theorem State.setBin_freeSegs (s : State) (b : Nat) (r : Bin) : (s.setBin b r).freeSegs = s.freeSegs := rfl
@[simp] theorem State.setBin_freeCues (s : State) (b : Nat) (r : Bin) : (s.setBin b r).freeCues = s.freeCues := rfl
@[simp] theorem State.setBin_binCount (s : State) (b : Nat) (r : Bin) : (s.setBin b r).binCount = s.binCount := rfl
@[simp] theorem State.setBin_bins (s : State) (b : Nat) (r : Bin) :
    (s.setBin b r).bins = Tab.set Bin.fresh s.bins b r := rfl
@[simp] theorem State.setBin_freeBins (s : State) (b : Nat) (r : Bin) : (s.setBin b r).freeBins = s.freeBins := rfl
@[simp] theorem State.setBin_channels (s : State) (b : Nat) (r : Bin) : (s.setBin b r).channels = s.channels := rfl
@[simp] theorem State.setBin_engine0 (s : State) (b : Nat) (r : Bin) : (s.setBin b r).engine0 = s.engine0 := rfl
@[simp] theorem State.setBin_engine1 (s : State) (b : Nat) (r : Bin) : (s.setBin b r).engine1 = s.engine1 := rfl
@[simp] theorem State.setBin_pressedPtr (s : State) (b : Nat) (r : Bin) :
    (s.setBin b r).pressedPtr = s.pressedPtr := rfl
@[simp] theorem State.setBin_unpressedPtr (s : State) (b : Nat) (r : Bin) :
    (s.setBin b r).unpressedPtr = s.unpressedPtr := rfl
@[simp] theorem State.setBin_cache (s : State) (b : Nat) (r : Bin) : (s.setBin b r).cache = s.cache := rfl
@[simp] theorem State.setBin_drq (s : State) (b : Nat) (r : Bin) : (s.setBin b r).drq = s.drq := rfl
@[simp] theorem State.setBin_room (s : State) (b : Nat) (r : Bin) : (s.setBin b r).room = s.room := rfl
@[simp] theorem State.setBin_roomDue (s : State) (b : Nat) (r : Bin) : (s.setBin b r).roomDue = s.roomDue := rfl
@[simp] theorem State.setBin_cursors (s : State) (b : Nat) (r : Bin) : (s.setBin b r).cursors = s.cursors := rfl
@[simp] theorem State.setBin_raw (s : State) (b : Nat) (r : Bin) : (s.setBin b r).raw = s.raw := rfl
@[simp] theorem State.setBin_freeIdx (s : State) (b : Nat) (r : Bin) : (s.setBin b r).freeIdx = s.freeIdx := rfl
@[simp] theorem State.setBin_portOut (s : State) (b : Nat) (r : Bin) : (s.setBin b r).portOut = s.portOut := rfl
@[simp] theorem State.setBin_linkOut (s : State) (b : Nat) (r : Bin) : (s.setBin b r).linkOut = s.linkOut := rfl

/-! ### State.setEntry -/

@[simp] theorem State.setEntry_pending (s : State) (n : Nat) (e : Entry) : (s.setEntry n e).pending = s.pending := rfl
@[simp] theorem State.setEntry_resetPin (s : State) (n : Nat) (e : Entry) :
    (s.setEntry n e).resetPin = s.resetPin := rfl
@[simp] theorem State.setEntry_linkResetPin (s : State) (n : Nat) (e : Entry) :
    (s.setEntry n e).linkResetPin = s.linkResetPin := rfl
@[simp] theorem State.setEntry_cpsel (s : State) (n : Nat) (e : Entry) : (s.setEntry n e).cpsel = s.cpsel := rfl
@[simp] theorem State.setEntry_tsc (s : State) (n : Nat) (e : Entry) : (s.setEntry n e).tsc = s.tsc := rfl
@[simp] theorem State.setEntry_part (s : State) (n : Nat) (e : Entry) : (s.setEntry n e).part = s.part := rfl
@[simp] theorem State.setEntry_cfg (s : State) (n : Nat) (e : Entry) : (s.setEntry n e).cfg = s.cfg := rfl
@[simp] theorem State.setEntry_prodCopy (s : State) (n : Nat) (e : Entry) :
    (s.setEntry n e).prodCopy = s.prodCopy := rfl
@[simp] theorem State.setEntry_consumer (s : State) (n : Nat) (e : Entry) :
    (s.setEntry n e).consumer = s.consumer := rfl
@[simp] theorem State.setEntry_fetching (s : State) (n : Nat) (e : Entry) :
    (s.setEntry n e).fetching = s.fetching := rfl
@[simp] theorem State.setEntry_cfgPending (s : State) (n : Nat) (e : Entry) :
    (s.setEntry n e).cfgPending = s.cfgPending := rfl
@[simp] theorem State.setEntry_lastResult (s : State) (n : Nat) (e : Entry) :
    (s.setEntry n e).lastResult = s.lastResult := rfl
@[simp] theorem State.setEntry_lastSlot (s : State) (n : Nat) (e : Entry) :
    (s.setEntry n e).lastSlot = s.lastSlot := rfl
@[simp] theorem State.setEntry_poolRun (s : State) (n : Nat) (e : Entry) : (s.setEntry n e).poolRun = s.poolRun := rfl
@[simp] theorem State.setEntry_consCopy (s : State) (n : Nat) (e : Entry) :
    (s.setEntry n e).consCopy = s.consCopy := rfl
@[simp] theorem State.setEntry_prod (s : State) (n : Nat) (e : Entry) : (s.setEntry n e).prod = s.prod := rfl
@[simp] theorem State.setEntry_overflow (s : State) (n : Nat) (e : Entry) :
    (s.setEntry n e).overflow = s.overflow := rfl
@[simp] theorem State.setEntry_lost (s : State) (n : Nat) (e : Entry) : (s.setEntry n e).lost = s.lost := rfl
@[simp] theorem State.setEntry_loud (s : State) (n : Nat) (e : Entry) : (s.setEntry n e).loud = s.loud := rfl
@[simp] theorem State.setEntry_entries (s : State) (n : Nat) (e : Entry) :
    (s.setEntry n e).entries = Tab.put s.entries n e := rfl
@[simp] theorem State.setEntry_nextRank (s : State) (n : Nat) (e : Entry) :
    (s.setEntry n e).nextRank = s.nextRank := rfl
@[simp] theorem State.setEntry_letters (s : State) (n : Nat) (e : Entry) : (s.setEntry n e).letters = s.letters := rfl
@[simp] theorem State.setEntry_longs (s : State) (n : Nat) (e : Entry) : (s.setEntry n e).longs = s.longs := rfl
@[simp] theorem State.setEntry_freeSegs (s : State) (n : Nat) (e : Entry) :
    (s.setEntry n e).freeSegs = s.freeSegs := rfl
@[simp] theorem State.setEntry_freeCues (s : State) (n : Nat) (e : Entry) :
    (s.setEntry n e).freeCues = s.freeCues := rfl
@[simp] theorem State.setEntry_binCount (s : State) (n : Nat) (e : Entry) :
    (s.setEntry n e).binCount = s.binCount := rfl
@[simp] theorem State.setEntry_bins (s : State) (n : Nat) (e : Entry) : (s.setEntry n e).bins = s.bins := rfl
@[simp] theorem State.setEntry_freeBins (s : State) (n : Nat) (e : Entry) :
    (s.setEntry n e).freeBins = s.freeBins := rfl
@[simp] theorem State.setEntry_channels (s : State) (n : Nat) (e : Entry) :
    (s.setEntry n e).channels = s.channels := rfl
@[simp] theorem State.setEntry_engine0 (s : State) (n : Nat) (e : Entry) : (s.setEntry n e).engine0 = s.engine0 := rfl
@[simp] theorem State.setEntry_engine1 (s : State) (n : Nat) (e : Entry) : (s.setEntry n e).engine1 = s.engine1 := rfl
@[simp] theorem State.setEntry_pressedPtr (s : State) (n : Nat) (e : Entry) :
    (s.setEntry n e).pressedPtr = s.pressedPtr := rfl
@[simp] theorem State.setEntry_unpressedPtr (s : State) (n : Nat) (e : Entry) :
    (s.setEntry n e).unpressedPtr = s.unpressedPtr := rfl
@[simp] theorem State.setEntry_cache (s : State) (n : Nat) (e : Entry) : (s.setEntry n e).cache = s.cache := rfl
@[simp] theorem State.setEntry_drq (s : State) (n : Nat) (e : Entry) : (s.setEntry n e).drq = s.drq := rfl
@[simp] theorem State.setEntry_room (s : State) (n : Nat) (e : Entry) : (s.setEntry n e).room = s.room := rfl
@[simp] theorem State.setEntry_roomDue (s : State) (n : Nat) (e : Entry) : (s.setEntry n e).roomDue = s.roomDue := rfl
@[simp] theorem State.setEntry_cursors (s : State) (n : Nat) (e : Entry) : (s.setEntry n e).cursors = s.cursors := rfl
@[simp] theorem State.setEntry_raw (s : State) (n : Nat) (e : Entry) : (s.setEntry n e).raw = s.raw := rfl
@[simp] theorem State.setEntry_freeIdx (s : State) (n : Nat) (e : Entry) : (s.setEntry n e).freeIdx = s.freeIdx := rfl
@[simp] theorem State.setEntry_portOut (s : State) (n : Nat) (e : Entry) : (s.setEntry n e).portOut = s.portOut := rfl
@[simp] theorem State.setEntry_linkOut (s : State) (n : Nat) (e : Entry) : (s.setEntry n e).linkOut = s.linkOut := rfl

/-! ### State.freeEntry -/

@[simp] theorem State.freeEntry_pending (s : State) (n : Nat) : (s.freeEntry n).pending = s.pending := rfl
@[simp] theorem State.freeEntry_resetPin (s : State) (n : Nat) : (s.freeEntry n).resetPin = s.resetPin := rfl
@[simp] theorem State.freeEntry_linkResetPin (s : State) (n : Nat) :
    (s.freeEntry n).linkResetPin = s.linkResetPin := rfl
@[simp] theorem State.freeEntry_cpsel (s : State) (n : Nat) : (s.freeEntry n).cpsel = s.cpsel := rfl
@[simp] theorem State.freeEntry_tsc (s : State) (n : Nat) : (s.freeEntry n).tsc = s.tsc := rfl
@[simp] theorem State.freeEntry_part (s : State) (n : Nat) : (s.freeEntry n).part = s.part := rfl
@[simp] theorem State.freeEntry_cfg (s : State) (n : Nat) : (s.freeEntry n).cfg = s.cfg := rfl
@[simp] theorem State.freeEntry_prodCopy (s : State) (n : Nat) : (s.freeEntry n).prodCopy = s.prodCopy := rfl
@[simp] theorem State.freeEntry_consumer (s : State) (n : Nat) : (s.freeEntry n).consumer = s.consumer := rfl
@[simp] theorem State.freeEntry_fetching (s : State) (n : Nat) : (s.freeEntry n).fetching = s.fetching := rfl
@[simp] theorem State.freeEntry_cfgPending (s : State) (n : Nat) : (s.freeEntry n).cfgPending = s.cfgPending := rfl
@[simp] theorem State.freeEntry_lastResult (s : State) (n : Nat) : (s.freeEntry n).lastResult = s.lastResult := rfl
@[simp] theorem State.freeEntry_lastSlot (s : State) (n : Nat) : (s.freeEntry n).lastSlot = s.lastSlot := rfl
@[simp] theorem State.freeEntry_poolRun (s : State) (n : Nat) : (s.freeEntry n).poolRun = s.poolRun := rfl
@[simp] theorem State.freeEntry_consCopy (s : State) (n : Nat) : (s.freeEntry n).consCopy = s.consCopy := rfl
@[simp] theorem State.freeEntry_prod (s : State) (n : Nat) : (s.freeEntry n).prod = s.prod := rfl
@[simp] theorem State.freeEntry_overflow (s : State) (n : Nat) : (s.freeEntry n).overflow = s.overflow := rfl
@[simp] theorem State.freeEntry_lost (s : State) (n : Nat) : (s.freeEntry n).lost = s.lost := rfl
@[simp] theorem State.freeEntry_loud (s : State) (n : Nat) : (s.freeEntry n).loud = s.loud := rfl
@[simp] theorem State.freeEntry_entries (s : State) (n : Nat) : (s.freeEntry n).entries = Tab.erase s.entries n := rfl
@[simp] theorem State.freeEntry_nextRank (s : State) (n : Nat) : (s.freeEntry n).nextRank = s.nextRank := rfl
@[simp] theorem State.freeEntry_letters (s : State) (n : Nat) : (s.freeEntry n).letters = s.letters := rfl
@[simp] theorem State.freeEntry_longs (s : State) (n : Nat) : (s.freeEntry n).longs = s.longs := rfl
@[simp] theorem State.freeEntry_freeSegs (s : State) (n : Nat) : (s.freeEntry n).freeSegs = s.freeSegs := rfl
@[simp] theorem State.freeEntry_freeCues (s : State) (n : Nat) : (s.freeEntry n).freeCues = s.freeCues := rfl
@[simp] theorem State.freeEntry_binCount (s : State) (n : Nat) : (s.freeEntry n).binCount = s.binCount := rfl
@[simp] theorem State.freeEntry_bins (s : State) (n : Nat) : (s.freeEntry n).bins = s.bins := rfl
@[simp] theorem State.freeEntry_freeBins (s : State) (n : Nat) : (s.freeEntry n).freeBins = s.freeBins := rfl
@[simp] theorem State.freeEntry_channels (s : State) (n : Nat) : (s.freeEntry n).channels = s.channels := rfl
@[simp] theorem State.freeEntry_engine0 (s : State) (n : Nat) : (s.freeEntry n).engine0 = s.engine0 := rfl
@[simp] theorem State.freeEntry_engine1 (s : State) (n : Nat) : (s.freeEntry n).engine1 = s.engine1 := rfl
@[simp] theorem State.freeEntry_pressedPtr (s : State) (n : Nat) : (s.freeEntry n).pressedPtr = s.pressedPtr := rfl
@[simp] theorem State.freeEntry_unpressedPtr (s : State) (n : Nat) :
    (s.freeEntry n).unpressedPtr = s.unpressedPtr := rfl
@[simp] theorem State.freeEntry_cache (s : State) (n : Nat) : (s.freeEntry n).cache = s.cache := rfl
@[simp] theorem State.freeEntry_drq (s : State) (n : Nat) : (s.freeEntry n).drq = s.drq := rfl
@[simp] theorem State.freeEntry_room (s : State) (n : Nat) : (s.freeEntry n).room = s.room := rfl
@[simp] theorem State.freeEntry_roomDue (s : State) (n : Nat) : (s.freeEntry n).roomDue = s.roomDue := rfl
@[simp] theorem State.freeEntry_cursors (s : State) (n : Nat) : (s.freeEntry n).cursors = s.cursors := rfl
@[simp] theorem State.freeEntry_raw (s : State) (n : Nat) : (s.freeEntry n).raw = s.raw := rfl
@[simp] theorem State.freeEntry_freeIdx (s : State) (n : Nat) : (s.freeEntry n).freeIdx = s.freeIdx := rfl
@[simp] theorem State.freeEntry_portOut (s : State) (n : Nat) : (s.freeEntry n).portOut = s.portOut := rfl
@[simp] theorem State.freeEntry_linkOut (s : State) (n : Nat) : (s.freeEntry n).linkOut = s.linkOut := rfl

/-! ### State.emit -/

@[simp] theorem State.emit_pending (s : State) (r : PortReq) : (s.emit r).pending = s.pending := rfl
@[simp] theorem State.emit_resetPin (s : State) (r : PortReq) : (s.emit r).resetPin = s.resetPin := rfl
@[simp] theorem State.emit_linkResetPin (s : State) (r : PortReq) : (s.emit r).linkResetPin = s.linkResetPin := rfl
@[simp] theorem State.emit_cpsel (s : State) (r : PortReq) : (s.emit r).cpsel = s.cpsel := rfl
@[simp] theorem State.emit_tsc (s : State) (r : PortReq) : (s.emit r).tsc = s.tsc := rfl
@[simp] theorem State.emit_part (s : State) (r : PortReq) : (s.emit r).part = s.part := rfl
@[simp] theorem State.emit_cfg (s : State) (r : PortReq) : (s.emit r).cfg = s.cfg := rfl
@[simp] theorem State.emit_prodCopy (s : State) (r : PortReq) : (s.emit r).prodCopy = s.prodCopy := rfl
@[simp] theorem State.emit_consumer (s : State) (r : PortReq) : (s.emit r).consumer = s.consumer := rfl
@[simp] theorem State.emit_fetching (s : State) (r : PortReq) : (s.emit r).fetching = s.fetching := rfl
@[simp] theorem State.emit_cfgPending (s : State) (r : PortReq) : (s.emit r).cfgPending = s.cfgPending := rfl
@[simp] theorem State.emit_lastResult (s : State) (r : PortReq) : (s.emit r).lastResult = s.lastResult := rfl
@[simp] theorem State.emit_lastSlot (s : State) (r : PortReq) : (s.emit r).lastSlot = s.lastSlot := rfl
@[simp] theorem State.emit_poolRun (s : State) (r : PortReq) : (s.emit r).poolRun = s.poolRun := rfl
@[simp] theorem State.emit_consCopy (s : State) (r : PortReq) : (s.emit r).consCopy = s.consCopy := rfl
@[simp] theorem State.emit_prod (s : State) (r : PortReq) : (s.emit r).prod = s.prod := rfl
@[simp] theorem State.emit_overflow (s : State) (r : PortReq) : (s.emit r).overflow = s.overflow := rfl
@[simp] theorem State.emit_lost (s : State) (r : PortReq) : (s.emit r).lost = s.lost := rfl
@[simp] theorem State.emit_loud (s : State) (r : PortReq) : (s.emit r).loud = s.loud := rfl
@[simp] theorem State.emit_entries (s : State) (r : PortReq) : (s.emit r).entries = s.entries := rfl
@[simp] theorem State.emit_nextRank (s : State) (r : PortReq) : (s.emit r).nextRank = s.nextRank := rfl
@[simp] theorem State.emit_letters (s : State) (r : PortReq) : (s.emit r).letters = s.letters := rfl
@[simp] theorem State.emit_longs (s : State) (r : PortReq) : (s.emit r).longs = s.longs := rfl
@[simp] theorem State.emit_freeSegs (s : State) (r : PortReq) : (s.emit r).freeSegs = s.freeSegs := rfl
@[simp] theorem State.emit_freeCues (s : State) (r : PortReq) : (s.emit r).freeCues = s.freeCues := rfl
@[simp] theorem State.emit_binCount (s : State) (r : PortReq) : (s.emit r).binCount = s.binCount := rfl
@[simp] theorem State.emit_bins (s : State) (r : PortReq) : (s.emit r).bins = s.bins := rfl
@[simp] theorem State.emit_freeBins (s : State) (r : PortReq) : (s.emit r).freeBins = s.freeBins := rfl
@[simp] theorem State.emit_channels (s : State) (r : PortReq) : (s.emit r).channels = s.channels := rfl
@[simp] theorem State.emit_engine0 (s : State) (r : PortReq) : (s.emit r).engine0 = s.engine0 := rfl
@[simp] theorem State.emit_engine1 (s : State) (r : PortReq) : (s.emit r).engine1 = s.engine1 := rfl
@[simp] theorem State.emit_pressedPtr (s : State) (r : PortReq) : (s.emit r).pressedPtr = s.pressedPtr := rfl
@[simp] theorem State.emit_unpressedPtr (s : State) (r : PortReq) : (s.emit r).unpressedPtr = s.unpressedPtr := rfl
@[simp] theorem State.emit_cache (s : State) (r : PortReq) : (s.emit r).cache = s.cache := rfl
@[simp] theorem State.emit_drq (s : State) (r : PortReq) : (s.emit r).drq = s.drq := rfl
@[simp] theorem State.emit_room (s : State) (r : PortReq) : (s.emit r).room = s.room := rfl
@[simp] theorem State.emit_roomDue (s : State) (r : PortReq) : (s.emit r).roomDue = s.roomDue := rfl
@[simp] theorem State.emit_cursors (s : State) (r : PortReq) : (s.emit r).cursors = s.cursors := rfl
@[simp] theorem State.emit_raw (s : State) (r : PortReq) : (s.emit r).raw = s.raw := rfl
@[simp] theorem State.emit_freeIdx (s : State) (r : PortReq) : (s.emit r).freeIdx = s.freeIdx := rfl
@[simp] theorem State.emit_portOut (s : State) (r : PortReq) : (s.emit r).portOut = s.portOut ++ [r] := rfl
@[simp] theorem State.emit_linkOut (s : State) (r : PortReq) : (s.emit r).linkOut = s.linkOut := rfl

/-! ### State.bumpFree -/

@[simp] theorem State.bumpFree_pending (s : State) : (s.bumpFree).pending = s.pending := rfl
@[simp] theorem State.bumpFree_resetPin (s : State) : (s.bumpFree).resetPin = s.resetPin := rfl
@[simp] theorem State.bumpFree_linkResetPin (s : State) : (s.bumpFree).linkResetPin = s.linkResetPin := rfl
@[simp] theorem State.bumpFree_cpsel (s : State) : (s.bumpFree).cpsel = s.cpsel := rfl
@[simp] theorem State.bumpFree_tsc (s : State) : (s.bumpFree).tsc = s.tsc := rfl
@[simp] theorem State.bumpFree_part (s : State) : (s.bumpFree).part = s.part := rfl
@[simp] theorem State.bumpFree_cfg (s : State) : (s.bumpFree).cfg = s.cfg := rfl
@[simp] theorem State.bumpFree_prodCopy (s : State) : (s.bumpFree).prodCopy = s.prodCopy := rfl
@[simp] theorem State.bumpFree_consumer (s : State) : (s.bumpFree).consumer = s.consumer := rfl
@[simp] theorem State.bumpFree_fetching (s : State) : (s.bumpFree).fetching = s.fetching := rfl
@[simp] theorem State.bumpFree_cfgPending (s : State) : (s.bumpFree).cfgPending = s.cfgPending := rfl
@[simp] theorem State.bumpFree_lastResult (s : State) : (s.bumpFree).lastResult = s.lastResult := rfl
@[simp] theorem State.bumpFree_lastSlot (s : State) : (s.bumpFree).lastSlot = s.lastSlot := rfl
@[simp] theorem State.bumpFree_poolRun (s : State) : (s.bumpFree).poolRun = s.poolRun := rfl
@[simp] theorem State.bumpFree_consCopy (s : State) : (s.bumpFree).consCopy = s.consCopy := rfl
@[simp] theorem State.bumpFree_prod (s : State) : (s.bumpFree).prod = s.prod := rfl
@[simp] theorem State.bumpFree_overflow (s : State) : (s.bumpFree).overflow = s.overflow := rfl
@[simp] theorem State.bumpFree_lost (s : State) : (s.bumpFree).lost = s.lost := rfl
@[simp] theorem State.bumpFree_loud (s : State) : (s.bumpFree).loud = s.loud := rfl
@[simp] theorem State.bumpFree_entries (s : State) : (s.bumpFree).entries = s.entries := rfl
@[simp] theorem State.bumpFree_nextRank (s : State) : (s.bumpFree).nextRank = s.nextRank := rfl
@[simp] theorem State.bumpFree_letters (s : State) : (s.bumpFree).letters = s.letters := rfl
@[simp] theorem State.bumpFree_longs (s : State) : (s.bumpFree).longs = s.longs := rfl
@[simp] theorem State.bumpFree_freeSegs (s : State) : (s.bumpFree).freeSegs = s.freeSegs := rfl
@[simp] theorem State.bumpFree_freeCues (s : State) : (s.bumpFree).freeCues = s.freeCues := rfl
@[simp] theorem State.bumpFree_binCount (s : State) : (s.bumpFree).binCount = s.binCount := rfl
@[simp] theorem State.bumpFree_bins (s : State) : (s.bumpFree).bins = s.bins := rfl
@[simp] theorem State.bumpFree_freeBins (s : State) : (s.bumpFree).freeBins = s.freeBins := rfl
@[simp] theorem State.bumpFree_channels (s : State) : (s.bumpFree).channels = s.channels := rfl
@[simp] theorem State.bumpFree_engine0 (s : State) : (s.bumpFree).engine0 = s.engine0 := rfl
@[simp] theorem State.bumpFree_engine1 (s : State) : (s.bumpFree).engine1 = s.engine1 := rfl
@[simp] theorem State.bumpFree_pressedPtr (s : State) : (s.bumpFree).pressedPtr = s.pressedPtr := rfl
@[simp] theorem State.bumpFree_unpressedPtr (s : State) : (s.bumpFree).unpressedPtr = s.unpressedPtr := rfl
@[simp] theorem State.bumpFree_cache (s : State) : (s.bumpFree).cache = s.cache := rfl
@[simp] theorem State.bumpFree_drq (s : State) : (s.bumpFree).drq = s.drq := rfl
@[simp] theorem State.bumpFree_room (s : State) : (s.bumpFree).room = s.room := rfl
@[simp] theorem State.bumpFree_roomDue (s : State) : (s.bumpFree).roomDue = s.roomDue := rfl
@[simp] theorem State.bumpFree_cursors (s : State) : (s.bumpFree).cursors = s.cursors := rfl
@[simp] theorem State.bumpFree_raw (s : State) : (s.bumpFree).raw = s.raw := rfl
@[simp] theorem State.bumpFree_freeIdx (s : State) : (s.bumpFree).freeIdx = s.freeIdx + 1 := rfl
@[simp] theorem State.bumpFree_portOut (s : State) : (s.bumpFree).portOut = s.portOut := rfl
@[simp] theorem State.bumpFree_linkOut (s : State) : (s.bumpFree).linkOut = s.linkOut := rfl

/-! ### setLast -/

@[simp] theorem setLast_pending (r : Result) (s : State) : (setLast r s).pending = s.pending := rfl
@[simp] theorem setLast_resetPin (r : Result) (s : State) : (setLast r s).resetPin = s.resetPin := rfl
@[simp] theorem setLast_linkResetPin (r : Result) (s : State) : (setLast r s).linkResetPin = s.linkResetPin := rfl
@[simp] theorem setLast_cpsel (r : Result) (s : State) : (setLast r s).cpsel = s.cpsel := rfl
@[simp] theorem setLast_tsc (r : Result) (s : State) : (setLast r s).tsc = s.tsc := rfl
@[simp] theorem setLast_part (r : Result) (s : State) : (setLast r s).part = s.part := rfl
@[simp] theorem setLast_cfg (r : Result) (s : State) : (setLast r s).cfg = s.cfg := rfl
@[simp] theorem setLast_prodCopy (r : Result) (s : State) : (setLast r s).prodCopy = s.prodCopy := rfl
@[simp] theorem setLast_consumer (r : Result) (s : State) : (setLast r s).consumer = s.consumer := rfl
@[simp] theorem setLast_fetching (r : Result) (s : State) : (setLast r s).fetching = s.fetching := rfl
@[simp] theorem setLast_cfgPending (r : Result) (s : State) : (setLast r s).cfgPending = s.cfgPending := rfl
@[simp] theorem setLast_lastResult (r : Result) (s : State) : (setLast r s).lastResult = r := rfl
@[simp] theorem setLast_lastSlot (r : Result) (s : State) : (setLast r s).lastSlot = s.consumer := rfl
@[simp] theorem setLast_poolRun (r : Result) (s : State) : (setLast r s).poolRun = s.poolRun := rfl
@[simp] theorem setLast_consCopy (r : Result) (s : State) : (setLast r s).consCopy = s.consCopy := rfl
@[simp] theorem setLast_prod (r : Result) (s : State) : (setLast r s).prod = s.prod := rfl
@[simp] theorem setLast_overflow (r : Result) (s : State) : (setLast r s).overflow = s.overflow := rfl
@[simp] theorem setLast_lost (r : Result) (s : State) : (setLast r s).lost = s.lost := rfl
@[simp] theorem setLast_loud (r : Result) (s : State) : (setLast r s).loud = s.loud := rfl
@[simp] theorem setLast_entries (r : Result) (s : State) : (setLast r s).entries = s.entries := rfl
@[simp] theorem setLast_nextRank (r : Result) (s : State) : (setLast r s).nextRank = s.nextRank := rfl
@[simp] theorem setLast_letters (r : Result) (s : State) : (setLast r s).letters = s.letters := rfl
@[simp] theorem setLast_longs (r : Result) (s : State) : (setLast r s).longs = s.longs := rfl
@[simp] theorem setLast_freeSegs (r : Result) (s : State) : (setLast r s).freeSegs = s.freeSegs := rfl
@[simp] theorem setLast_freeCues (r : Result) (s : State) : (setLast r s).freeCues = s.freeCues := rfl
@[simp] theorem setLast_binCount (r : Result) (s : State) : (setLast r s).binCount = s.binCount := rfl
@[simp] theorem setLast_bins (r : Result) (s : State) : (setLast r s).bins = s.bins := rfl
@[simp] theorem setLast_freeBins (r : Result) (s : State) : (setLast r s).freeBins = s.freeBins := rfl
@[simp] theorem setLast_channels (r : Result) (s : State) : (setLast r s).channels = s.channels := rfl
@[simp] theorem setLast_engine0 (r : Result) (s : State) : (setLast r s).engine0 = s.engine0 := rfl
@[simp] theorem setLast_engine1 (r : Result) (s : State) : (setLast r s).engine1 = s.engine1 := rfl
@[simp] theorem setLast_pressedPtr (r : Result) (s : State) : (setLast r s).pressedPtr = s.pressedPtr := rfl
@[simp] theorem setLast_unpressedPtr (r : Result) (s : State) : (setLast r s).unpressedPtr = s.unpressedPtr := rfl
@[simp] theorem setLast_cache (r : Result) (s : State) : (setLast r s).cache = s.cache := rfl
@[simp] theorem setLast_drq (r : Result) (s : State) : (setLast r s).drq = s.drq := rfl
@[simp] theorem setLast_room (r : Result) (s : State) : (setLast r s).room = s.room := rfl
@[simp] theorem setLast_roomDue (r : Result) (s : State) : (setLast r s).roomDue = s.roomDue := rfl
@[simp] theorem setLast_cursors (r : Result) (s : State) : (setLast r s).cursors = s.cursors := rfl
@[simp] theorem setLast_raw (r : Result) (s : State) : (setLast r s).raw = s.raw := rfl
@[simp] theorem setLast_freeIdx (r : Result) (s : State) : (setLast r s).freeIdx = s.freeIdx := rfl
@[simp] theorem setLast_portOut (r : Result) (s : State) : (setLast r s).portOut = s.portOut := rfl
@[simp] theorem setLast_linkOut (r : Result) (s : State) : (setLast r s).linkOut = s.linkOut := rfl

/-! ### State.setEngine -/

@[simp] theorem State.setEngine_pending (s : State) (e : Fin 2) (x : Engine) :
    (s.setEngine e x).pending = s.pending := by
  unfold State.setEngine; split <;> rfl
@[simp] theorem State.setEngine_resetPin (s : State) (e : Fin 2) (x : Engine) :
    (s.setEngine e x).resetPin = s.resetPin := by
  unfold State.setEngine; split <;> rfl
@[simp] theorem State.setEngine_linkResetPin (s : State) (e : Fin 2) (x : Engine) :
    (s.setEngine e x).linkResetPin = s.linkResetPin := by
  unfold State.setEngine; split <;> rfl
@[simp] theorem State.setEngine_cpsel (s : State) (e : Fin 2) (x : Engine) :
    (s.setEngine e x).cpsel = s.cpsel := by
  unfold State.setEngine; split <;> rfl
@[simp] theorem State.setEngine_tsc (s : State) (e : Fin 2) (x : Engine) :
    (s.setEngine e x).tsc = s.tsc := by
  unfold State.setEngine; split <;> rfl
@[simp] theorem State.setEngine_part (s : State) (e : Fin 2) (x : Engine) :
    (s.setEngine e x).part = s.part := by
  unfold State.setEngine; split <;> rfl
@[simp] theorem State.setEngine_cfg (s : State) (e : Fin 2) (x : Engine) :
    (s.setEngine e x).cfg = s.cfg := by
  unfold State.setEngine; split <;> rfl
@[simp] theorem State.setEngine_prodCopy (s : State) (e : Fin 2) (x : Engine) :
    (s.setEngine e x).prodCopy = s.prodCopy := by
  unfold State.setEngine; split <;> rfl
@[simp] theorem State.setEngine_consumer (s : State) (e : Fin 2) (x : Engine) :
    (s.setEngine e x).consumer = s.consumer := by
  unfold State.setEngine; split <;> rfl
@[simp] theorem State.setEngine_fetching (s : State) (e : Fin 2) (x : Engine) :
    (s.setEngine e x).fetching = s.fetching := by
  unfold State.setEngine; split <;> rfl
@[simp] theorem State.setEngine_cfgPending (s : State) (e : Fin 2) (x : Engine) :
    (s.setEngine e x).cfgPending = s.cfgPending := by
  unfold State.setEngine; split <;> rfl
@[simp] theorem State.setEngine_lastResult (s : State) (e : Fin 2) (x : Engine) :
    (s.setEngine e x).lastResult = s.lastResult := by
  unfold State.setEngine; split <;> rfl
@[simp] theorem State.setEngine_lastSlot (s : State) (e : Fin 2) (x : Engine) :
    (s.setEngine e x).lastSlot = s.lastSlot := by
  unfold State.setEngine; split <;> rfl
@[simp] theorem State.setEngine_poolRun (s : State) (e : Fin 2) (x : Engine) :
    (s.setEngine e x).poolRun = s.poolRun := by
  unfold State.setEngine; split <;> rfl
@[simp] theorem State.setEngine_consCopy (s : State) (e : Fin 2) (x : Engine) :
    (s.setEngine e x).consCopy = s.consCopy := by
  unfold State.setEngine; split <;> rfl
@[simp] theorem State.setEngine_prod (s : State) (e : Fin 2) (x : Engine) :
    (s.setEngine e x).prod = s.prod := by
  unfold State.setEngine; split <;> rfl
@[simp] theorem State.setEngine_overflow (s : State) (e : Fin 2) (x : Engine) :
    (s.setEngine e x).overflow = s.overflow := by
  unfold State.setEngine; split <;> rfl
@[simp] theorem State.setEngine_lost (s : State) (e : Fin 2) (x : Engine) :
    (s.setEngine e x).lost = s.lost := by
  unfold State.setEngine; split <;> rfl
@[simp] theorem State.setEngine_loud (s : State) (e : Fin 2) (x : Engine) :
    (s.setEngine e x).loud = s.loud := by
  unfold State.setEngine; split <;> rfl
@[simp] theorem State.setEngine_entries (s : State) (e : Fin 2) (x : Engine) :
    (s.setEngine e x).entries = s.entries := by
  unfold State.setEngine; split <;> rfl
@[simp] theorem State.setEngine_nextRank (s : State) (e : Fin 2) (x : Engine) :
    (s.setEngine e x).nextRank = s.nextRank := by
  unfold State.setEngine; split <;> rfl
@[simp] theorem State.setEngine_letters (s : State) (e : Fin 2) (x : Engine) :
    (s.setEngine e x).letters = s.letters := by
  unfold State.setEngine; split <;> rfl
@[simp] theorem State.setEngine_longs (s : State) (e : Fin 2) (x : Engine) :
    (s.setEngine e x).longs = s.longs := by
  unfold State.setEngine; split <;> rfl
@[simp] theorem State.setEngine_freeSegs (s : State) (e : Fin 2) (x : Engine) :
    (s.setEngine e x).freeSegs = s.freeSegs := by
  unfold State.setEngine; split <;> rfl
@[simp] theorem State.setEngine_freeCues (s : State) (e : Fin 2) (x : Engine) :
    (s.setEngine e x).freeCues = s.freeCues := by
  unfold State.setEngine; split <;> rfl
@[simp] theorem State.setEngine_binCount (s : State) (e : Fin 2) (x : Engine) :
    (s.setEngine e x).binCount = s.binCount := by
  unfold State.setEngine; split <;> rfl
@[simp] theorem State.setEngine_bins (s : State) (e : Fin 2) (x : Engine) :
    (s.setEngine e x).bins = s.bins := by
  unfold State.setEngine; split <;> rfl
@[simp] theorem State.setEngine_freeBins (s : State) (e : Fin 2) (x : Engine) :
    (s.setEngine e x).freeBins = s.freeBins := by
  unfold State.setEngine; split <;> rfl
@[simp] theorem State.setEngine_channels (s : State) (e : Fin 2) (x : Engine) :
    (s.setEngine e x).channels = s.channels := by
  unfold State.setEngine; split <;> rfl
@[simp] theorem State.setEngine_pressedPtr (s : State) (e : Fin 2) (x : Engine) :
    (s.setEngine e x).pressedPtr = s.pressedPtr := by
  unfold State.setEngine; split <;> rfl
@[simp] theorem State.setEngine_unpressedPtr (s : State) (e : Fin 2) (x : Engine) :
    (s.setEngine e x).unpressedPtr = s.unpressedPtr := by
  unfold State.setEngine; split <;> rfl
@[simp] theorem State.setEngine_cache (s : State) (e : Fin 2) (x : Engine) :
    (s.setEngine e x).cache = s.cache := by
  unfold State.setEngine; split <;> rfl
@[simp] theorem State.setEngine_drq (s : State) (e : Fin 2) (x : Engine) :
    (s.setEngine e x).drq = s.drq := by
  unfold State.setEngine; split <;> rfl
@[simp] theorem State.setEngine_room (s : State) (e : Fin 2) (x : Engine) :
    (s.setEngine e x).room = s.room := by
  unfold State.setEngine; split <;> rfl
@[simp] theorem State.setEngine_roomDue (s : State) (e : Fin 2) (x : Engine) :
    (s.setEngine e x).roomDue = s.roomDue := by
  unfold State.setEngine; split <;> rfl
@[simp] theorem State.setEngine_cursors (s : State) (e : Fin 2) (x : Engine) :
    (s.setEngine e x).cursors = s.cursors := by
  unfold State.setEngine; split <;> rfl
@[simp] theorem State.setEngine_raw (s : State) (e : Fin 2) (x : Engine) :
    (s.setEngine e x).raw = s.raw := by
  unfold State.setEngine; split <;> rfl
@[simp] theorem State.setEngine_freeIdx (s : State) (e : Fin 2) (x : Engine) :
    (s.setEngine e x).freeIdx = s.freeIdx := by
  unfold State.setEngine; split <;> rfl
@[simp] theorem State.setEngine_portOut (s : State) (e : Fin 2) (x : Engine) :
    (s.setEngine e x).portOut = s.portOut := by
  unfold State.setEngine; split <;> rfl
@[simp] theorem State.setEngine_linkOut (s : State) (e : Fin 2) (x : Engine) :
    (s.setEngine e x).linkOut = s.linkOut := by
  unfold State.setEngine; split <;> rfl

/-- Reading the engine just written, and the other one. -/
theorem State.engine_setEngine (s : State) (e d : Fin 2) (x : Engine) :
    (s.setEngine e x).engine d = if d = e then x else s.engine d := by
  unfold State.setEngine State.engine
  match e, d with
  | 0, 0 => rfl
  | 0, 1 => rfl
  | 1, 0 => rfl
  | 1, 1 => rfl

end Sys2Proof.Machine
end

