-- ==== Sys2Proof/Laws/Frames.lean ====
section
/-! SUPPORT. Frames: what each shared operation leaves unchanged, said through the state with the changed fields set aside. -/

namespace Sys2Proof.Machine

open Sys2Proof

/-! ### Reading a field that a mask keeps -/

theorem State.pending_of_body {s t : State} (h : t.body = s.body) : t.pending = s.pending := (congrArg State.pending h :)
theorem State.resetPin_of_body {s t : State} (h : t.body = s.body) : t.resetPin = s.resetPin := (congrArg State.resetPin h :)
theorem State.linkResetPin_of_body {s t : State} (h : t.body = s.body) : t.linkResetPin = s.linkResetPin := (congrArg State.linkResetPin h :)
theorem State.cpsel_of_body {s t : State} (h : t.body = s.body) : t.cpsel = s.cpsel := (congrArg State.cpsel h :)
theorem State.tsc_of_body {s t : State} (h : t.body = s.body) : t.tsc = s.tsc := (congrArg State.tsc h :)
theorem State.part_of_body {s t : State} (h : t.body = s.body) : t.part = s.part := (congrArg State.part h :)
theorem State.cfg_of_body {s t : State} (h : t.body = s.body) : t.cfg = s.cfg := (congrArg State.cfg h :)
theorem State.prodCopy_of_body {s t : State} (h : t.body = s.body) : t.prodCopy = s.prodCopy := (congrArg State.prodCopy h :)
theorem State.poolRun_of_body {s t : State} (h : t.body = s.body) : t.poolRun = s.poolRun := (congrArg State.poolRun h :)
theorem State.consCopy_of_body {s t : State} (h : t.body = s.body) : t.consCopy = s.consCopy := (congrArg State.consCopy h :)
theorem State.entries_of_body {s t : State} (h : t.body = s.body) : t.entries = s.entries := (congrArg State.entries h :)
theorem State.nextRank_of_body {s t : State} (h : t.body = s.body) : t.nextRank = s.nextRank := (congrArg State.nextRank h :)
theorem State.letters_of_body {s t : State} (h : t.body = s.body) : t.letters = s.letters := (congrArg State.letters h :)
theorem State.longs_of_body {s t : State} (h : t.body = s.body) : t.longs = s.longs := (congrArg State.longs h :)
theorem State.freeSegs_of_body {s t : State} (h : t.body = s.body) : t.freeSegs = s.freeSegs := (congrArg State.freeSegs h :)
theorem State.freeCues_of_body {s t : State} (h : t.body = s.body) : t.freeCues = s.freeCues := (congrArg State.freeCues h :)
theorem State.binCount_of_body {s t : State} (h : t.body = s.body) : t.binCount = s.binCount := (congrArg State.binCount h :)
theorem State.bins_of_body {s t : State} (h : t.body = s.body) : t.bins = s.bins := (congrArg State.bins h :)
theorem State.freeBins_of_body {s t : State} (h : t.body = s.body) : t.freeBins = s.freeBins := (congrArg State.freeBins h :)
theorem State.channels_of_body {s t : State} (h : t.body = s.body) : t.channels = s.channels := (congrArg State.channels h :)
theorem State.engine0_of_body {s t : State} (h : t.body = s.body) : t.engine0 = s.engine0 := (congrArg State.engine0 h :)
theorem State.engine1_of_body {s t : State} (h : t.body = s.body) : t.engine1 = s.engine1 := (congrArg State.engine1 h :)
theorem State.pressedPtr_of_body {s t : State} (h : t.body = s.body) : t.pressedPtr = s.pressedPtr := (congrArg State.pressedPtr h :)
theorem State.unpressedPtr_of_body {s t : State} (h : t.body = s.body) : t.unpressedPtr = s.unpressedPtr := (congrArg State.unpressedPtr h :)
theorem State.cache_of_body {s t : State} (h : t.body = s.body) : t.cache = s.cache := (congrArg State.cache h :)
theorem State.drq_of_body {s t : State} (h : t.body = s.body) : t.drq = s.drq := (congrArg State.drq h :)
theorem State.room_of_body {s t : State} (h : t.body = s.body) : t.room = s.room := (congrArg State.room h :)
theorem State.roomDue_of_body {s t : State} (h : t.body = s.body) : t.roomDue = s.roomDue :=
  (congrArg State.roomDue h :)
theorem State.cursors_of_body {s t : State} (h : t.body = s.body) : t.cursors = s.cursors := (congrArg State.cursors h :)
theorem State.raw_of_body {s t : State} (h : t.body = s.body) : t.raw = s.raw := (congrArg State.raw h :)
theorem State.freeIdx_of_body {s t : State} (h : t.body = s.body) : t.freeIdx = s.freeIdx := (congrArg State.freeIdx h :)
theorem State.linkOut_of_body {s t : State} (h : t.body = s.body) : t.linkOut = s.linkOut := (congrArg State.linkOut h :)

theorem State.pending_of_entryMask {s t : State} (h : t.entryMask = s.entryMask) : t.pending = s.pending := (congrArg State.pending h :)
theorem State.resetPin_of_entryMask {s t : State} (h : t.entryMask = s.entryMask) : t.resetPin = s.resetPin := (congrArg State.resetPin h :)
theorem State.linkResetPin_of_entryMask {s t : State} (h : t.entryMask = s.entryMask) : t.linkResetPin = s.linkResetPin := (congrArg State.linkResetPin h :)
theorem State.cpsel_of_entryMask {s t : State} (h : t.entryMask = s.entryMask) : t.cpsel = s.cpsel := (congrArg State.cpsel h :)
theorem State.tsc_of_entryMask {s t : State} (h : t.entryMask = s.entryMask) : t.tsc = s.tsc := (congrArg State.tsc h :)
theorem State.part_of_entryMask {s t : State} (h : t.entryMask = s.entryMask) : t.part = s.part := (congrArg State.part h :)
theorem State.cfg_of_entryMask {s t : State} (h : t.entryMask = s.entryMask) : t.cfg = s.cfg := (congrArg State.cfg h :)
theorem State.prodCopy_of_entryMask {s t : State} (h : t.entryMask = s.entryMask) : t.prodCopy = s.prodCopy := (congrArg State.prodCopy h :)
theorem State.poolRun_of_entryMask {s t : State} (h : t.entryMask = s.entryMask) : t.poolRun = s.poolRun := (congrArg State.poolRun h :)
theorem State.consCopy_of_entryMask {s t : State} (h : t.entryMask = s.entryMask) : t.consCopy = s.consCopy := (congrArg State.consCopy h :)
theorem State.nextRank_of_entryMask {s t : State} (h : t.entryMask = s.entryMask) : t.nextRank = s.nextRank := (congrArg State.nextRank h :)
theorem State.letters_of_entryMask {s t : State} (h : t.entryMask = s.entryMask) : t.letters = s.letters := (congrArg State.letters h :)
theorem State.longs_of_entryMask {s t : State} (h : t.entryMask = s.entryMask) : t.longs = s.longs := (congrArg State.longs h :)
theorem State.freeSegs_of_entryMask {s t : State} (h : t.entryMask = s.entryMask) : t.freeSegs = s.freeSegs := (congrArg State.freeSegs h :)
theorem State.freeCues_of_entryMask {s t : State} (h : t.entryMask = s.entryMask) : t.freeCues = s.freeCues := (congrArg State.freeCues h :)
theorem State.binCount_of_entryMask {s t : State} (h : t.entryMask = s.entryMask) : t.binCount = s.binCount := (congrArg State.binCount h :)
theorem State.bins_of_entryMask {s t : State} (h : t.entryMask = s.entryMask) : t.bins = s.bins := (congrArg State.bins h :)
theorem State.freeBins_of_entryMask {s t : State} (h : t.entryMask = s.entryMask) : t.freeBins = s.freeBins := (congrArg State.freeBins h :)
theorem State.channels_of_entryMask {s t : State} (h : t.entryMask = s.entryMask) : t.channels = s.channels := (congrArg State.channels h :)
theorem State.engine0_of_entryMask {s t : State} (h : t.entryMask = s.entryMask) : t.engine0 = s.engine0 := (congrArg State.engine0 h :)
theorem State.engine1_of_entryMask {s t : State} (h : t.entryMask = s.entryMask) : t.engine1 = s.engine1 := (congrArg State.engine1 h :)
theorem State.pressedPtr_of_entryMask {s t : State} (h : t.entryMask = s.entryMask) : t.pressedPtr = s.pressedPtr := (congrArg State.pressedPtr h :)
theorem State.unpressedPtr_of_entryMask {s t : State} (h : t.entryMask = s.entryMask) : t.unpressedPtr = s.unpressedPtr := (congrArg State.unpressedPtr h :)
theorem State.cache_of_entryMask {s t : State} (h : t.entryMask = s.entryMask) : t.cache = s.cache := (congrArg State.cache h :)
theorem State.drq_of_entryMask {s t : State} (h : t.entryMask = s.entryMask) : t.drq = s.drq := (congrArg State.drq h :)
theorem State.room_of_entryMask {s t : State} (h : t.entryMask = s.entryMask) : t.room = s.room := (congrArg State.room h :)
theorem State.roomDue_of_entryMask {s t : State} (h : t.entryMask = s.entryMask) : t.roomDue = s.roomDue :=
  (congrArg State.roomDue h :)
theorem State.cursors_of_entryMask {s t : State} (h : t.entryMask = s.entryMask) : t.cursors = s.cursors := (congrArg State.cursors h :)
theorem State.raw_of_entryMask {s t : State} (h : t.entryMask = s.entryMask) : t.raw = s.raw := (congrArg State.raw h :)
theorem State.freeIdx_of_entryMask {s t : State} (h : t.entryMask = s.entryMask) : t.freeIdx = s.freeIdx := (congrArg State.freeIdx h :)
theorem State.linkOut_of_entryMask {s t : State} (h : t.entryMask = s.entryMask) : t.linkOut = s.linkOut := (congrArg State.linkOut h :)

theorem State.pending_of_readMask {s t : State} (h : t.readMask = s.readMask) : t.pending = s.pending := (congrArg State.pending h :)
theorem State.resetPin_of_readMask {s t : State} (h : t.readMask = s.readMask) : t.resetPin = s.resetPin := (congrArg State.resetPin h :)
theorem State.linkResetPin_of_readMask {s t : State} (h : t.readMask = s.readMask) : t.linkResetPin = s.linkResetPin := (congrArg State.linkResetPin h :)
theorem State.cpsel_of_readMask {s t : State} (h : t.readMask = s.readMask) : t.cpsel = s.cpsel := (congrArg State.cpsel h :)
theorem State.tsc_of_readMask {s t : State} (h : t.readMask = s.readMask) : t.tsc = s.tsc := (congrArg State.tsc h :)
theorem State.part_of_readMask {s t : State} (h : t.readMask = s.readMask) : t.part = s.part := (congrArg State.part h :)
theorem State.cfg_of_readMask {s t : State} (h : t.readMask = s.readMask) : t.cfg = s.cfg := (congrArg State.cfg h :)
theorem State.prodCopy_of_readMask {s t : State} (h : t.readMask = s.readMask) : t.prodCopy = s.prodCopy := (congrArg State.prodCopy h :)
theorem State.poolRun_of_readMask {s t : State} (h : t.readMask = s.readMask) : t.poolRun = s.poolRun := (congrArg State.poolRun h :)
theorem State.consCopy_of_readMask {s t : State} (h : t.readMask = s.readMask) : t.consCopy = s.consCopy := (congrArg State.consCopy h :)
theorem State.nextRank_of_readMask {s t : State} (h : t.readMask = s.readMask) : t.nextRank = s.nextRank := (congrArg State.nextRank h :)
theorem State.letters_of_readMask {s t : State} (h : t.readMask = s.readMask) : t.letters = s.letters := (congrArg State.letters h :)
theorem State.longs_of_readMask {s t : State} (h : t.readMask = s.readMask) : t.longs = s.longs := (congrArg State.longs h :)
theorem State.freeSegs_of_readMask {s t : State} (h : t.readMask = s.readMask) : t.freeSegs = s.freeSegs := (congrArg State.freeSegs h :)
theorem State.freeCues_of_readMask {s t : State} (h : t.readMask = s.readMask) : t.freeCues = s.freeCues := (congrArg State.freeCues h :)
theorem State.binCount_of_readMask {s t : State} (h : t.readMask = s.readMask) : t.binCount = s.binCount := (congrArg State.binCount h :)
theorem State.bins_of_readMask {s t : State} (h : t.readMask = s.readMask) : t.bins = s.bins := (congrArg State.bins h :)
theorem State.freeBins_of_readMask {s t : State} (h : t.readMask = s.readMask) : t.freeBins = s.freeBins := (congrArg State.freeBins h :)
theorem State.channels_of_readMask {s t : State} (h : t.readMask = s.readMask) : t.channels = s.channels := (congrArg State.channels h :)
theorem State.engine0_of_readMask {s t : State} (h : t.readMask = s.readMask) : t.engine0 = s.engine0 := (congrArg State.engine0 h :)
theorem State.engine1_of_readMask {s t : State} (h : t.readMask = s.readMask) : t.engine1 = s.engine1 := (congrArg State.engine1 h :)
theorem State.pressedPtr_of_readMask {s t : State} (h : t.readMask = s.readMask) : t.pressedPtr = s.pressedPtr := (congrArg State.pressedPtr h :)
theorem State.unpressedPtr_of_readMask {s t : State} (h : t.readMask = s.readMask) : t.unpressedPtr = s.unpressedPtr := (congrArg State.unpressedPtr h :)
theorem State.cursors_of_readMask {s t : State} (h : t.readMask = s.readMask) : t.cursors = s.cursors := (congrArg State.cursors h :)
theorem State.raw_of_readMask {s t : State} (h : t.readMask = s.readMask) : t.raw = s.raw := (congrArg State.raw h :)
theorem State.freeIdx_of_readMask {s t : State} (h : t.readMask = s.readMask) : t.freeIdx = s.freeIdx := (congrArg State.freeIdx h :)
theorem State.linkOut_of_readMask {s t : State} (h : t.readMask = s.readMask) : t.linkOut = s.linkOut := (congrArg State.linkOut h :)

theorem State.pending_of_recMask {s t : State} (h : t.recMask = s.recMask) : t.pending = s.pending := (congrArg State.pending h :)
theorem State.resetPin_of_recMask {s t : State} (h : t.recMask = s.recMask) : t.resetPin = s.resetPin := (congrArg State.resetPin h :)
theorem State.linkResetPin_of_recMask {s t : State} (h : t.recMask = s.recMask) : t.linkResetPin = s.linkResetPin := (congrArg State.linkResetPin h :)
theorem State.cpsel_of_recMask {s t : State} (h : t.recMask = s.recMask) : t.cpsel = s.cpsel := (congrArg State.cpsel h :)
theorem State.tsc_of_recMask {s t : State} (h : t.recMask = s.recMask) : t.tsc = s.tsc := (congrArg State.tsc h :)
theorem State.part_of_recMask {s t : State} (h : t.recMask = s.recMask) : t.part = s.part := (congrArg State.part h :)
theorem State.cfg_of_recMask {s t : State} (h : t.recMask = s.recMask) : t.cfg = s.cfg := (congrArg State.cfg h :)
theorem State.prodCopy_of_recMask {s t : State} (h : t.recMask = s.recMask) : t.prodCopy = s.prodCopy := (congrArg State.prodCopy h :)
theorem State.poolRun_of_recMask {s t : State} (h : t.recMask = s.recMask) : t.poolRun = s.poolRun := (congrArg State.poolRun h :)
theorem State.consCopy_of_recMask {s t : State} (h : t.recMask = s.recMask) : t.consCopy = s.consCopy := (congrArg State.consCopy h :)
theorem State.entries_of_recMask {s t : State} (h : t.recMask = s.recMask) : t.entries = s.entries := (congrArg State.entries h :)
theorem State.nextRank_of_recMask {s t : State} (h : t.recMask = s.recMask) : t.nextRank = s.nextRank := (congrArg State.nextRank h :)
theorem State.longs_of_recMask {s t : State} (h : t.recMask = s.recMask) : t.longs = s.longs := (congrArg State.longs h :)
theorem State.freeCues_of_recMask {s t : State} (h : t.recMask = s.recMask) : t.freeCues = s.freeCues := (congrArg State.freeCues h :)
theorem State.binCount_of_recMask {s t : State} (h : t.recMask = s.recMask) : t.binCount = s.binCount := (congrArg State.binCount h :)
theorem State.engine0_of_recMask {s t : State} (h : t.recMask = s.recMask) : t.engine0 = s.engine0 := (congrArg State.engine0 h :)
theorem State.engine1_of_recMask {s t : State} (h : t.recMask = s.recMask) : t.engine1 = s.engine1 := (congrArg State.engine1 h :)
theorem State.pressedPtr_of_recMask {s t : State} (h : t.recMask = s.recMask) : t.pressedPtr = s.pressedPtr := (congrArg State.pressedPtr h :)
theorem State.unpressedPtr_of_recMask {s t : State} (h : t.recMask = s.recMask) : t.unpressedPtr = s.unpressedPtr := (congrArg State.unpressedPtr h :)
theorem State.drq_of_recMask {s t : State} (h : t.recMask = s.recMask) : t.drq = s.drq := (congrArg State.drq h :)
theorem State.room_of_recMask {s t : State} (h : t.recMask = s.recMask) : t.room = s.room := (congrArg State.room h :)
theorem State.roomDue_of_recMask {s t : State} (h : t.recMask = s.recMask) : t.roomDue = s.roomDue :=
  (congrArg State.roomDue h :)
theorem State.raw_of_recMask {s t : State} (h : t.recMask = s.recMask) : t.raw = s.raw := (congrArg State.raw h :)
theorem State.freeIdx_of_recMask {s t : State} (h : t.recMask = s.recMask) : t.freeIdx = s.freeIdx := (congrArg State.freeIdx h :)
theorem State.linkOut_of_recMask {s t : State} (h : t.recMask = s.recMask) : t.linkOut = s.linkOut := (congrArg State.linkOut h :)

theorem State.pending_of_writeMask {s t : State} (h : t.writeMask = s.writeMask) : t.pending = s.pending := (congrArg State.pending h :)
theorem State.resetPin_of_writeMask {s t : State} (h : t.writeMask = s.writeMask) : t.resetPin = s.resetPin := (congrArg State.resetPin h :)
theorem State.linkResetPin_of_writeMask {s t : State} (h : t.writeMask = s.writeMask) : t.linkResetPin = s.linkResetPin := (congrArg State.linkResetPin h :)
theorem State.cpsel_of_writeMask {s t : State} (h : t.writeMask = s.writeMask) : t.cpsel = s.cpsel := (congrArg State.cpsel h :)
theorem State.tsc_of_writeMask {s t : State} (h : t.writeMask = s.writeMask) : t.tsc = s.tsc := (congrArg State.tsc h :)
theorem State.part_of_writeMask {s t : State} (h : t.writeMask = s.writeMask) : t.part = s.part := (congrArg State.part h :)
theorem State.cfg_of_writeMask {s t : State} (h : t.writeMask = s.writeMask) : t.cfg = s.cfg := (congrArg State.cfg h :)
theorem State.prodCopy_of_writeMask {s t : State} (h : t.writeMask = s.writeMask) : t.prodCopy = s.prodCopy := (congrArg State.prodCopy h :)
theorem State.poolRun_of_writeMask {s t : State} (h : t.writeMask = s.writeMask) : t.poolRun = s.poolRun := (congrArg State.poolRun h :)
theorem State.consCopy_of_writeMask {s t : State} (h : t.writeMask = s.writeMask) : t.consCopy = s.consCopy := (congrArg State.consCopy h :)
theorem State.nextRank_of_writeMask {s t : State} (h : t.writeMask = s.writeMask) : t.nextRank = s.nextRank := (congrArg State.nextRank h :)
theorem State.longs_of_writeMask {s t : State} (h : t.writeMask = s.writeMask) : t.longs = s.longs := (congrArg State.longs h :)
theorem State.freeCues_of_writeMask {s t : State} (h : t.writeMask = s.writeMask) : t.freeCues = s.freeCues := (congrArg State.freeCues h :)
theorem State.binCount_of_writeMask {s t : State} (h : t.writeMask = s.writeMask) : t.binCount = s.binCount := (congrArg State.binCount h :)
theorem State.engine0_of_writeMask {s t : State} (h : t.writeMask = s.writeMask) : t.engine0 = s.engine0 := (congrArg State.engine0 h :)
theorem State.engine1_of_writeMask {s t : State} (h : t.writeMask = s.writeMask) : t.engine1 = s.engine1 := (congrArg State.engine1 h :)
theorem State.pressedPtr_of_writeMask {s t : State} (h : t.writeMask = s.writeMask) : t.pressedPtr = s.pressedPtr := (congrArg State.pressedPtr h :)
theorem State.unpressedPtr_of_writeMask {s t : State} (h : t.writeMask = s.writeMask) : t.unpressedPtr = s.unpressedPtr := (congrArg State.unpressedPtr h :)
theorem State.drq_of_writeMask {s t : State} (h : t.writeMask = s.writeMask) : t.drq = s.drq := (congrArg State.drq h :)
theorem State.room_of_writeMask {s t : State} (h : t.writeMask = s.writeMask) : t.room = s.room := (congrArg State.room h :)
theorem State.roomDue_of_writeMask {s t : State} (h : t.writeMask = s.writeMask) : t.roomDue = s.roomDue :=
  (congrArg State.roomDue h :)
theorem State.freeIdx_of_writeMask {s t : State} (h : t.writeMask = s.writeMask) : t.freeIdx = s.freeIdx := (congrArg State.freeIdx h :)
theorem State.linkOut_of_writeMask {s t : State} (h : t.writeMask = s.writeMask) : t.linkOut = s.linkOut := (congrArg State.linkOut h :)

/-! ### Masks that set more aside -/

theorem State.entryMask_of_body {s t : State} (h : t.body = s.body) : t.entryMask = s.entryMask :=
  (congrArg (fun u : State => { u with entries := [] }) h :)
theorem State.readMask_of_body {s t : State} (h : t.body = s.body) : t.readMask = s.readMask :=
  (congrArg (fun u : State => { u with entries := [], cache := [], drq := [], room := [], roomDue := 0 }) h :)
theorem State.recMask_of_body {s t : State} (h : t.body = s.body) : t.recMask = s.recMask :=
  (congrArg (fun u : State => { u with channels := [], letters := [], freeSegs := 0, bins := [], freeBins := [], cache := [], cursors := [] }) h :)
theorem State.writeMask_of_body {s t : State} (h : t.body = s.body) : t.writeMask = s.writeMask :=
  (congrArg (fun u : State => { u with channels := [], letters := [], freeSegs := 0, bins := [], freeBins := [], cache := [], cursors := [], entries := [], raw := [] }) h :)
theorem State.readMask_of_entryMask {s t : State} (h : t.entryMask = s.entryMask) : t.readMask = s.readMask :=
  (congrArg (fun u : State => { u with cache := [], drq := [], room := [], roomDue := 0 }) h :)
theorem State.writeMask_of_entryMask {s t : State} (h : t.entryMask = s.entryMask) : t.writeMask = s.writeMask :=
  (congrArg (fun u : State => { u with channels := [], letters := [], freeSegs := 0, bins := [], freeBins := [], cache := [], cursors := [], raw := [] }) h :)
theorem State.writeMask_of_recMask {s t : State} (h : t.recMask = s.recMask) : t.writeMask = s.writeMask :=
  (congrArg (fun u : State => { u with entries := [], raw := [] }) h :)

/-! ### Reporting: everything but the reporting fields is kept -/

@[simp] theorem emit_body (s : State) (r : PortReq) : (s.emit r).body = s.body := rfl
@[simp] theorem emitWrite_body (s : State) (a : Nat) (d : List Byte) : (s.emitWrite a d).body = s.body := rfl
@[simp] theorem emitRead_body (s : State) (a n : Nat) : (s.emitRead a n).body = s.body := rfl
@[simp] theorem writeStatus_body (s : State) : s.writeStatus.body = s.body := rfl
@[simp] theorem writeNotice_body (s : State) (n : Notice) : (s.writeNotice n).body = s.body := rfl
@[simp] theorem setLast_body (r : Result) (s : State) : (setLast r s).body = s.body := rfl

@[simp] theorem reportLost_body (s : State) : s.reportLost.body = s.body := by
  unfold State.reportLost; split <;> rfl

@[simp] theorem ringNotice_body (s : State) (n : Notice) : (s.ringNotice n).body = s.body := by
  unfold State.ringNotice; split <;> rfl

/-- A post changes the ring's fields and issues requests, and nothing else (R178). -/
@[simp] theorem post_body (n : Notice) (s : State) : (post n s).body = s.body := by
  unfold post; split <;> simp

@[simp] theorem answer_body (l u : Option Nat) (r : Result) (d : List Byte) (s : State) :
    (answer l u r d s).body = s.body := by simp [answer]

@[simp] theorem fetchNext_body (s : State) : (fetchNext s).body = s.body := by
  unfold fetchNext; split <;> rfl

/-- Retiring a command moves the consumer, writes the status block and fetches, and changes nothing else (R174). -/
@[simp] theorem retire_body (s : State) : (retire s).body = s.body := by
  simp only [retire, fetchNext_body]; rfl

/-! ### Answering entries: only the table changes besides reporting -/

@[simp] theorem setEntry_entryMask (s : State) (n : Nat) (e : Entry) : (s.setEntry n e).entryMask = s.entryMask := rfl
@[simp] theorem freeEntry_entryMask (s : State) (n : Nat) : (s.freeEntry n).entryMask = s.entryMask := rfl

@[simp] theorem post_entryMask (n : Notice) (s : State) : (post n s).entryMask = s.entryMask :=
  State.entryMask_of_body (post_body n s)

@[simp] theorem refuseEntry_entryMask (n : Nat) (r : Reason) (c : Option Nat) (s : State) :
    (refuseEntry n r c s).entryMask = s.entryMask := by
  unfold refuseEntry; split <;> simp

@[simp] theorem okEntry_entryMask (n : Nat) (s : State) : (okEntry n s).entryMask = s.entryMask := by
  unfold okEntry; split <;> simp

@[simp] theorem copyNeed_entryMask (xs : List Int) (s : State) (n : Need) :
    (copyNeed xs s n).entryMask = s.entryMask := by
  unfold copyNeed; split <;> simp

@[simp] theorem serveWaiters_entryMask (ws : List Need) (xs : List Int) (s : State) :
    (serveWaiters ws xs s).entryMask = s.entryMask := by
  unfold serveWaiters
  induction ws generalizing s with
  | nil => rfl
  | cons n r ih => rw [List.foldl_cons, ih, copyNeed_entryMask]

@[simp] theorem setEntryState_entryMask (n : Nat) (st : EntryState) (s : State) :
    (setEntryState n st s).entryMask = s.entryMask := by
  unfold setEntryState; split <;> simp

@[simp] theorem mapBuffer_entryMask (n : Nat) (f : Nat → Nat → Byte → Byte) (s : State) :
    (mapBuffer n f s).entryMask = s.entryMask := by
  unfold mapBuffer; split <;> simp

@[simp] theorem refuseWrites_entryMask (c : Nat) (ns : List Nat) (s : State) :
    (refuseWrites c ns s).entryMask = s.entryMask := by
  unfold refuseWrites
  induction ns generalizing s with
  | nil => rfl
  | cons n r ih => rw [List.foldl_cons, ih, refuseEntry_entryMask]

@[simp] theorem refuseHeld_entryMask (ps : List (Nat × Entry)) (s : State) :
    (refuseHeld ps s).entryMask = s.entryMask := by
  unfold refuseHeld
  induction ps generalizing s with
  | nil => rfl
  | cons p r ih => rw [List.foldl_cons, ih, refuseEntry_entryMask]

@[simp] theorem rejectImport_entryMask (c n : Nat) (e : Entry) (k : Cause) (s : State) :
    (rejectImport c n e k s).entryMask = s.entryMask := by
  simp [rejectImport]

/-! ### The read side: entries, cache, request queue and room waiting list -/

@[simp] theorem dropNeeds_readMask (n : Nat) (s : State) : (dropNeeds n s).readMask = s.readMask := rfl
@[simp] theorem setEntry_readMask (s : State) (n : Nat) (e : Entry) : (s.setEntry n e).readMask = s.readMask := rfl
@[simp] theorem invalidate_readMask (p : Nat → Nat → Bool) (s : State) : (invalidate p s).readMask = s.readMask := rfl

@[simp] theorem refuseEntry_readMask (n : Nat) (r : Reason) (c : Option Nat) (s : State) :
    (refuseEntry n r c s).readMask = s.readMask :=
  State.readMask_of_entryMask (refuseEntry_entryMask n r c s)

@[simp] theorem copyNeed_readMask (xs : List Int) (s : State) (n : Need) :
    (copyNeed xs s n).readMask = s.readMask :=
  State.readMask_of_entryMask (copyNeed_entryMask xs s n)

@[simp] theorem serveWaiters_readMask (ws : List Need) (xs : List Int) (s : State) :
    (serveWaiters ws xs s).readMask = s.readMask :=
  State.readMask_of_entryMask (serveWaiters_entryMask ws xs s)

@[simp] theorem hitNeed_readMask (n : Need) (s : State) : (hitNeed n s).readMask = s.readMask := by
  unfold hitNeed
  split
  · rfl
  · rw [copyNeed_readMask]; rfl

@[simp] theorem settleNeed_readMask (n : Need) (s : State) : (settleNeed n s).readMask = s.readMask := by
  unfold settleNeed
  split
  · exact hitNeed_readMask n s
  all_goals rfl

/-- A lookup changes entries, cache, queue and room waiting list, and nothing else (R114). -/
@[simp] theorem lookupNeed_readMask (s : State) (n : Need) : (lookupNeed s n).readMask = s.readMask := by
  unfold lookupNeed
  split
  · rfl
  · exact settleNeed_readMask n s

@[simp] theorem lookupAll_readMask (ns : List Need) (s : State) : (lookupAll ns s).readMask = s.readMask := by
  unfold lookupAll
  induction ns generalizing s with
  | nil => rfl
  | cons n r ih => rw [List.foldl_cons, ih, lookupNeed_readMask]

@[simp] theorem depart_readMask (k : Nat) (s : State) : (depart k s).readMask = s.readMask := rfl

@[simp] theorem serveRoom_readMask (ns : List Need) (s : State) : (serveRoom ns s).readMask = s.readMask := by
  induction ns generalizing s with
  | nil => rfl
  | cons n r ih =>
    unfold serveRoom
    dsimp only
    split
    · rfl
    · exact settleNeed_readMask n s
    all_goals rw [ih, settleNeed_readMask]

@[simp] theorem startFrames_readMask (n l : Nat) (fs : List Nat) (e : Entry) (s : State) :
    (startFrames n l fs e s).readMask = s.readMask := by
  unfold startFrames
  split
  · rfl
  · rw [lookupAll_readMask]; rfl

/-- A PCM read changes the read side only (R119). -/
@[simp] theorem takePcmRead_readMask (n : Nat) (e : Entry) (s : State) :
    (takePcmRead n e s).readMask = s.readMask := startFrames_readMask _ _ _ _ _

@[simp] theorem refuseReads_readMask (ps : List (Nat × Entry)) (s : State) :
    (refuseReads ps s).readMask = s.readMask := by
  unfold refuseReads
  induction ps generalizing s with
  | nil => rfl
  | cons p r ih => rw [List.foldl_cons, ih, refuseEntry_readMask, dropNeeds_readMask]

/-! ### The recording side: channels, letters, bins, cache and cursor targets -/

@[simp] theorem setChannel_recMask (s : State) (c : Nat) (x : Channel) : (s.setChannel c x).recMask = s.recMask := rfl
@[simp] theorem setLetter_recMask (s : State) (n : Nat) (x : Letter) : (s.setLetter n x).recMask = s.recMask := rfl
@[simp] theorem setBin_recMask (s : State) (b : Nat) (x : Bin) : (s.setBin b x).recMask = s.recMask := rfl
@[simp] theorem invalidate_recMask (p : Nat → Nat → Bool) (s : State) : (invalidate p s).recMask = s.recMask := rfl
@[simp] theorem retargetAll_recMask (n : Nat) (s : State) : (retargetAll n s).recMask = s.recMask := rfl

@[simp] theorem post_recMask (n : Notice) (s : State) : (post n s).recMask = s.recMask :=
  State.recMask_of_body (post_body n s)

@[simp] theorem updateBin_recMask (b : Nat) (f : Bin → Bin) (s : State) : (updateBin b f s).recMask = s.recMask := by
  unfold updateBin
  dsimp only
  split <;> rfl

@[simp] theorem settleSlot_recMask (p : Option (Nat × Nat)) (s : State) : (settleSlot p s).recMask = s.recMask := by
  unfold settleSlot; split <;> simp

@[simp] theorem placeSlot_recMask (p : Option (Nat × Nat)) (s : State) : (placeSlot p s).recMask = s.recMask := by
  unfold placeSlot; split <;> simp

@[simp] theorem lowerLive_recMask (b n : Nat) (s : State) : (lowerLive b n s).recMask = s.recMask := by
  simp [lowerLive]

@[simp] theorem releaseOld_recMask (o : Option Nat) (s : State) : (releaseOld o s).recMask = s.recMask := by
  unfold releaseOld; split <;> simp

@[simp] theorem setIncomplete_recMask (n : Nat) (s : State) : (setIncomplete n s).recMask = s.recMask := by
  unfold setIncomplete; split <;> simp

@[simp] theorem setDamaged_recMask (n : Nat) (s : State) : (setDamaged n s).recMask = s.recMask := by
  unfold setDamaged; split <;> simp

/-- A slot handout changes the bin table and nothing else (R47). -/
@[simp] theorem handOut_recMask (c : Nat) (s : State) : (handOut c s).2.recMask = s.recMask := by
  unfold handOut
  split
  · simp
  · split
    · rfl
    · dsimp only
      rw [updateBin_recMask]; rfl

/-- A drop changes the recording side only (R101). -/
@[simp] theorem dropFrame_recMask (c i : Nat) (r : DropReason) (s : State) :
    (dropFrame c i r s).recMask = s.recMask := by
  unfold dropFrame
  dsimp only
  split
  · rfl
  · split <;> simp

@[simp] theorem placeTargets_recMask (k : PlaceKind) (n : Nat) (s : State) :
    (placeTargets k n s).recMask = s.recMask := by
  unfold placeTargets; split <;> simp

@[simp] theorem commitPlacement_recMask (c : Nat) (f : FFrame) (s : State) :
    (commitPlacement c f s).recMask = s.recMask := by
  have key : ∀ (x : Channel) (y : Letter) (k : Nat),
      ({ (s.setChannel c x).setLetter f.letter y with freeSegs := k } : State).recMask = s.recMask :=
    fun _ _ _ => by simp [State.recMask, State.body]
  simp only [commitPlacement, placeTargets_recMask, invalidate_recMask, releaseOld_recMask, placeSlot_recMask]
  exact key _ _ _

@[simp] theorem placeHead_recMask (c : Nat) (f : FFrame) (s : State) : (placeHead c f s).recMask = s.recMask := by
  unfold placeHead
  dsimp only
  split
  · simp
  · split <;> simp

@[simp] theorem settleHead_recMask (c : Nat) (f : FFrame) (s : State) : (settleHead c f s).recMask = s.recMask := by
  unfold settleHead; split <;> simp

@[simp] theorem settle_recMask (n c : Nat) (s : State) : (settle n c s).recMask = s.recMask := by
  induction n generalizing s with
  | zero => rfl
  | succ k ih =>
    unfold settle
    split
    · rfl
    · split
      · rw [ih, settleHead_recMask]
      · rfl

/-- Settling a finished queue changes the recording side only (R98, R100). -/
@[simp] theorem settleQueue_recMask (c : Nat) (s : State) : (settleQueue c s).recMask = s.recMask :=
  settle_recMask 2 c s

@[simp] theorem finishFrame_recMask (c b : Nat) (xs : List Int) (s : State) :
    (finishFrame c b xs s).recMask = s.recMask := by simp [finishFrame]

/-- The end of a run changes the recording side only (R90, R95). -/
@[simp] theorem endRun_recMask (c : Nat) (s : State) : (endRun c s).recMask = s.recMask := by
  unfold endRun
  dsimp only
  split <;> simp

@[simp] theorem endCurrentRun_recMask (c : Nat) (s : State) : (endCurrentRun c s).recMask = s.recMask := by
  unfold endCurrentRun; split <;> simp

@[simp] theorem beginRun_recMask (c : Nat) (e : Entry) (s : State) : (beginRun c e s).recMask = s.recMask := rfl

@[simp] theorem takeSamples_recMask (n c : Nat) (xs : List Int) (s : State) :
    (takeSamples n c xs s).recMask = s.recMask := by
  induction n generalizing xs s with
  | zero => rfl
  | succ k ih =>
    unfold takeSamples
    split
    · rfl
    · dsimp only
      split
      · rfl
      · split
        · rfl
        · rw [ih, finishFrame_recMask]

@[simp] theorem advanceIdx_recMask (c n : Nat) (s : State) : (advanceIdx c n s).recMask = s.recMask := rfl
@[simp] theorem leaveList_recMask (c n : Nat) (s : State) : (leaveList c n s).recMask = s.recMask := rfl

/-! ### Writes: the recording side, the entries and the raw path -/

@[simp] theorem refuseEntry_writeMask (n : Nat) (r : Reason) (c : Option Nat) (s : State) :
    (refuseEntry n r c s).writeMask = s.writeMask :=
  State.writeMask_of_entryMask (refuseEntry_entryMask n r c s)

@[simp] theorem okEntry_writeMask (n : Nat) (s : State) : (okEntry n s).writeMask = s.writeMask :=
  State.writeMask_of_entryMask (okEntry_entryMask n s)

@[simp] theorem setEntryState_writeMask (n : Nat) (st : EntryState) (s : State) :
    (setEntryState n st s).writeMask = s.writeMask :=
  State.writeMask_of_entryMask (setEntryState_entryMask n st s)

/-- Taking a record changes the recording side and the raw path (R169, R170). -/
@[simp] theorem takeRecord_writeMask (c : Nat) (d : List Byte) (s : State) :
    (takeRecord c d s).writeMask = s.writeMask := by
  have h := handOut_recMask c s
  unfold takeRecord
  dsimp only
  split
  · exact State.writeMask_of_recMask (by simp)
  · split
    · exact State.writeMask_of_recMask (by simp)
    · exact (State.writeMask_of_recMask h :)

/-- Taking a write changes the recording side, the entries and the raw path (R92, R169). -/
@[simp] theorem takeWrite_writeMask (c n : Nat) (e : Entry) (s : State) :
    (takeWrite c n e s).writeMask = s.writeMask := by
  unfold takeWrite
  dsimp only
  rw [okEntry_writeMask]
  split
  · exact State.writeMask_of_recMask (by simp)
  · rw [State.writeMask_of_recMask (advanceIdx_recMask c 1 _), takeRecord_writeMask]
    exact State.writeMask_of_recMask (by simp)

/-- The first write of a run changes what a write changes (R91, R92). -/
@[simp] theorem takeFirst_writeMask (c n : Nat) (e : Entry) (s : State) :
    (takeFirst c n e s).writeMask = s.writeMask :=
  (takeWrite_writeMask c n e _).trans (State.writeMask_of_recMask (beginRun_recMask c e s))

@[simp] theorem considerHead_writeMask (k c : Nat) (s : State) : (considerHead k c s).writeMask = s.writeMask := by
  induction k generalizing s with
  | zero => rfl
  | succ k ih =>
    unfold considerHead
    split
    · rfl
    · dsimp only
      split
      · split
        · rw [ih, takeFirst_writeMask]
          exact State.writeMask_of_recMask (by simp)
        · exact State.writeMask_of_recMask (by simp)
      · split
        · rw [ih, refuseEntry_writeMask]
          exact State.writeMask_of_recMask (by simp)
        · rfl

/-- Considering a waiting list changes the recording side and the entries (R88, R89). -/
@[simp] theorem consider_writeMask (c : Nat) (s : State) : (consider c s).writeMask = s.writeMask :=
  considerHead_writeMask _ c s

@[simp] theorem joinList_writeMask (c n : Nat) (e : Entry) (s : State) :
    (joinList c n e s).writeMask = s.writeMask := by
  unfold joinList
  dsimp only
  split
  · exact State.writeMask_of_recMask (by simp)
  · split
    · split
      · rw [takeFirst_writeMask]
        exact State.writeMask_of_recMask (by simp)
      · rw [setEntryState_writeMask]
        exact State.writeMask_of_recMask (by simp)
    · split
      · rw [refuseEntry_writeMask]
        exact State.writeMask_of_recMask (by simp)
      · split
        · rw [takeWrite_writeMask]
          exact State.writeMask_of_recMask (by simp)
        · exact State.writeMask_of_recMask (by simp)

/-- Hand-over of a write changes the recording side, the entries and the raw path (R87, R168). -/
@[simp] theorem handWrite_writeMask (c n : Nat) (e : Entry) (s : State) :
    (handWrite c n e s).writeMask = s.writeMask := by
  unfold handWrite
  split
  · simp
  · split
    · split
      · simp
      · split
        · exact State.writeMask_of_entryMask (by simp)
        · simp
    · split <;> simp

end Sys2Proof.Machine
end

