-- ==== Sys2Proof/Laws/Tab.lean ====
section
/-! SUPPORT. Tables of numbered records: reading back what was written, and that every operation keeps the canonical form. -/

namespace Sys2Proof.Machine

variable {α : Type}

/-! ### Reading -/

@[simp] theorem Tab.find_nil (n : Nat) : Tab.find ([] : List (Nat × α)) n = none := rfl

theorem Tab.find_cons (k : Nat) (v : α) (r : List (Nat × α)) (n : Nat) :
    Tab.find ((k, v) :: r) n = if k = n then some v else Tab.find r n := rfl

/-- Below the lowest listed number nothing is listed. -/
theorem Tab.find_none_of_lt {t : List (Nat × α)} {lo n : Nat} (h : Tab.risesFrom lo t = true) (hn : n < lo) :
    Tab.find t n = none := by
  induction t generalizing lo with
  | nil => rfl
  | cons p r ih =>
    obtain ⟨k, v⟩ := p
    simp only [Tab.risesFrom, Bool.and_eq_true, decide_eq_true_eq] at h
    rw [Tab.find_cons, if_neg (by omega)]
    exact ih h.2 (by omega)

/-- A listed record is read back; the other numbers are untouched. -/
theorem Tab.find_put (t : List (Nat × α)) (n m : Nat) (v : α) :
    Tab.find (Tab.put t n v) m = if m = n then some v else Tab.find t m := by
  induction t with
  | nil =>
    rw [Tab.put, Tab.find_cons]
    by_cases h : m = n
    · simp [h]
    · rw [if_neg (by omega), if_neg h]
  | cons p r ih =>
    obtain ⟨k, w⟩ := p
    rw [Tab.put]
    split
    · rw [Tab.find_cons]
      by_cases h : m = n
      · simp [h]
      · rw [if_neg (by omega), if_neg h]
    · split
      · subst k
        rw [Tab.find_cons, Tab.find_cons]
        by_cases h : m = n
        · simp [h]
        · rw [if_neg (by omega), if_neg h, if_neg (by omega)]
      · rw [Tab.find_cons, Tab.find_cons, ih]
        by_cases hk : k = m
        · rw [if_pos hk, if_neg (by omega), if_pos hk]
        · rw [if_neg hk, if_neg hk]

/-- An erased number lists nothing; the other numbers are untouched. -/
theorem Tab.find_erase (t : List (Nat × α)) (n m : Nat) :
    Tab.find (Tab.erase t n) m = if m = n then none else Tab.find t m := by
  induction t with
  | nil => simp [Tab.erase]
  | cons p r ih =>
    obtain ⟨k, w⟩ := p
    rw [Tab.erase]
    split
    · rw [ih, Tab.find_cons]
      by_cases h : m = n
      · simp [h]
      · rw [if_neg h, if_neg h, if_neg (by omega)]
    · rw [Tab.find_cons, ih, Tab.find_cons]
      by_cases hk : k = m
      · rw [if_pos hk, if_neg (by omega), if_pos hk]
      · rw [if_neg hk, if_neg hk]

@[simp] theorem Tab.get_nil (d : α) (n : Nat) : Tab.get d [] n = d := rfl

variable [DecidableEq α]

/-- A record given to a number is read back; the other numbers are untouched. -/
theorem Tab.get_set (d : α) (t : List (Nat × α)) (n m : Nat) (v : α) :
    Tab.get d (Tab.set d t n v) m = if m = n then v else Tab.get d t m := by
  unfold Tab.get Tab.set
  split
  · rw [Tab.find_erase]
    split
    · simp_all
    · rfl
  · rw [Tab.find_put]
    split <;> rfl

@[simp] theorem Tab.get_set_same (d : α) (t : List (Nat × α)) (n : Nat) (v : α) :
    Tab.get d (Tab.set d t n v) n = v := by
  rw [Tab.get_set, if_pos rfl]

theorem Tab.get_set_other {n m : Nat} (d : α) (t : List (Nat × α)) (v : α) (h : m ≠ n) :
    Tab.get d (Tab.set d t n v) m = Tab.get d t m := by
  rw [Tab.get_set, if_neg h]

/-! ### The canonical form -/

omit [DecidableEq α] in
theorem Tab.risesFrom_le {lo hi : Nat} {t : List (Nat × α)} (h : Tab.risesFrom hi t = true) (hl : lo ≤ hi) :
    Tab.risesFrom lo t = true := by
  cases t with
  | nil => rfl
  | cons p r =>
    obtain ⟨k, v⟩ := p
    simp only [Tab.risesFrom, Bool.and_eq_true, decide_eq_true_eq] at h ⊢
    exact ⟨by omega, h.2⟩

omit [DecidableEq α] in
theorem Tab.risesFrom_put {lo n : Nat} {t : List (Nat × α)} (v : α) (h : Tab.risesFrom lo t = true)
    (hn : lo ≤ n) : Tab.risesFrom lo (Tab.put t n v) = true := by
  induction t generalizing lo with
  | nil => simp [Tab.put, Tab.risesFrom, hn]
  | cons p r ih =>
    obtain ⟨k, w⟩ := p
    simp only [Tab.risesFrom, Bool.and_eq_true, decide_eq_true_eq] at h
    rw [Tab.put]
    split
    · simp only [Tab.risesFrom, Bool.and_eq_true, decide_eq_true_eq]
      exact ⟨hn, by omega, h.2⟩
    · split
      · simp only [Tab.risesFrom, Bool.and_eq_true, decide_eq_true_eq]
        subst k
        exact ⟨hn, h.2⟩
      · simp only [Tab.risesFrom, Bool.and_eq_true, decide_eq_true_eq]
        exact ⟨h.1, ih h.2 (by omega)⟩

omit [DecidableEq α] in
theorem Tab.risesFrom_erase {lo : Nat} (n : Nat) {t : List (Nat × α)} (h : Tab.risesFrom lo t = true) :
    Tab.risesFrom lo (Tab.erase t n) = true := by
  induction t generalizing lo with
  | nil => rfl
  | cons p r ih =>
    obtain ⟨k, w⟩ := p
    simp only [Tab.risesFrom, Bool.and_eq_true, decide_eq_true_eq] at h
    rw [Tab.erase]
    split
    · exact ih (Tab.risesFrom_le h.2 (by omega))
    · simp only [Tab.risesFrom, Bool.and_eq_true, decide_eq_true_eq]
      exact ⟨h.1, ih h.2⟩

omit [DecidableEq α] in
theorem Tab.mem_put {t : List (Nat × α)} {n : Nat} {v : α} {p : Nat × α} (h : p ∈ Tab.put t n v) :
    p = (n, v) ∨ p ∈ t := by
  induction t with
  | nil => simpa [Tab.put] using h
  | cons q r ih =>
    obtain ⟨k, w⟩ := q
    rw [Tab.put] at h
    split at h
    · simpa using h
    · split at h
      · simp only [List.mem_cons] at h ⊢
        exact h.imp id Or.inr
      · simp only [List.mem_cons] at h ⊢
        rcases h with h | h
        · exact .inr (.inl h)
        · rcases ih h with h | h
          · exact .inl h
          · exact .inr (.inr h)

omit [DecidableEq α] in
theorem Tab.mem_erase {t : List (Nat × α)} {n : Nat} {p : Nat × α} (h : p ∈ Tab.erase t n) : p ∈ t := by
  induction t with
  | nil => simp [Tab.erase] at h
  | cons q r ih =>
    obtain ⟨k, w⟩ := q
    rw [Tab.erase] at h
    split at h
    · exact List.mem_cons_of_mem _ (ih h)
    · rcases List.mem_cons.mp h with h | h
      · exact h ▸ List.mem_cons_self
      · exact List.mem_cons_of_mem _ (ih h)

/-- Every write of a table keeps the canonical form. -/
theorem Tab.wf_set {d : α} {t : List (Nat × α)} (n : Nat) (v : α) (h : Tab.wf d t = true) :
    Tab.wf d (Tab.set d t n v) = true := by
  simp only [Tab.wf, Bool.and_eq_true, List.all_eq_true, decide_eq_true_eq] at h ⊢
  unfold Tab.set
  split
  · exact ⟨Tab.risesFrom_erase n h.1, fun p hp => h.2 p (Tab.mem_erase hp)⟩
  · rename_i hv
    refine ⟨Tab.risesFrom_put v h.1 (Nat.zero_le n), fun p hp => ?_⟩
    rcases Tab.mem_put hp with hp | hp
    · simpa [hp] using hv
    · exact h.2 p hp

/-- What a changed table lists for a number. -/
theorem Tab.find_change {d : α} (f : α → α) {lo : Nat} {t : List (Nat × α)} (h : Tab.risesFrom lo t = true)
    (n : Nat) : Tab.find (Tab.change d f t) n = ((Tab.find t n).map f).filter fun v => decide (v ≠ d) := by
  induction t generalizing lo with
  | nil => rfl
  | cons p r ih =>
    obtain ⟨k, v⟩ := p
    simp only [Tab.risesFrom, Bool.and_eq_true, decide_eq_true_eq] at h
    have ih' := ih h.2
    have hc : Tab.change d f ((k, v) :: r) = if f v = d then Tab.change d f r else (k, f v) :: Tab.change d f r := by
      by_cases hv : f v = d <;> simp [Tab.change, hv]
    rw [hc]
    by_cases hk : k = n
    · subst hk
      have hn : Tab.find r k = none := Tab.find_none_of_lt h.2 (Nat.lt_succ_self k)
      by_cases hv : f v = d
      · simp [hv, ih', hn, Tab.find, Option.filter]
      · simp [hv, Tab.find, Option.filter]
    · by_cases hv : f v = d
      · simp [hv, ih', Tab.find, hk]
      · simp [hv, Tab.find, hk, ih']

/-- A changed table holds the changed records, when the change keeps the default. -/
theorem Tab.get_change {d : α} {f : α → α} (hd : f d = d) {lo : Nat} {t : List (Nat × α)}
    (h : Tab.risesFrom lo t = true) (n : Nat) : Tab.get d (Tab.change d f t) n = f (Tab.get d t n) := by
  unfold Tab.get
  rw [Tab.find_change f h]
  cases hf : Tab.find t n with
  | none => simp [hd]
  | some v => by_cases hv : f v = d <;> simp [hv, Option.filter]

theorem Tab.risesFrom_change {d : α} (f : α → α) {lo : Nat} {t : List (Nat × α)} (h : Tab.risesFrom lo t = true) :
    Tab.risesFrom lo (Tab.change d f t) = true := by
  induction t generalizing lo with
  | nil => rfl
  | cons p r ih =>
    obtain ⟨k, v⟩ := p
    simp only [Tab.risesFrom, Bool.and_eq_true, decide_eq_true_eq] at h
    have hc : Tab.change d f ((k, v) :: r) = if f v = d then Tab.change d f r else (k, f v) :: Tab.change d f r := by
      by_cases hv : f v = d <;> simp [Tab.change, hv]
    rw [hc]
    split
    · exact Tab.risesFrom_le (ih h.2) (by omega)
    · simp [Tab.risesFrom, h.1, ih h.2]

/-- A changed table keeps the canonical form. -/
theorem Tab.wf_change {d : α} (f : α → α) {t : List (Nat × α)} (h : Tab.wf d t = true) :
    Tab.wf d (Tab.change d f t) = true := by
  simp only [Tab.wf, Bool.and_eq_true] at h ⊢
  refine ⟨Tab.risesFrom_change f h.1, ?_⟩
  simp [Tab.change]

end Sys2Proof.Machine
end

