-- ==== Sys2Proof/Laws/Ops.lean ====
section
/-! SUPPORT. What the shared operations give: reading back what was written, and one lemma per operation that says what it does. -/

namespace Sys2Proof.Machine

open Sys2Proof

/-! ### Reading back -/

theorem State.letter_setLetter (s : State) (n m : Nat) (l : Letter) :
    (s.setLetter n l).letter m = if m = n then l else s.letter m := Tab.get_set _ _ _ _ _

theorem State.channel_setChannel (s : State) (c d : Nat) (x : Channel) :
    (s.setChannel c x).channel d = if d = c then x else s.channel d := Tab.get_set _ _ _ _ _

theorem State.cursor_setCursor (s : State) (c d : Nat) (x : Cursor) :
    (s.setCursor c x).cursor d = if d = c then x else s.cursor d := Tab.get_set _ _ _ _ _

theorem State.bin_setBin (s : State) (b d : Nat) (x : Bin) :
    (s.setBin b x).bin d = if d = b then x else s.bin d := Tab.get_set _ _ _ _ _

theorem State.entry_setEntry (s : State) (n m : Nat) (e : Entry) :
    (s.setEntry n e).entry m = if m = n then some e else s.entry m := Tab.find_put _ _ _ _

theorem State.entry_freeEntry (s : State) (n m : Nat) :
    (s.freeEntry n).entry m = if m = n then none else s.entry m := Tab.find_erase _ _ _

@[simp] theorem State.letter_setLetter_same (s : State) (n : Nat) (l : Letter) : (s.setLetter n l).letter n = l := by
  simp [State.letter_setLetter]

@[simp] theorem State.channel_setChannel_same (s : State) (c : Nat) (x : Channel) :
    (s.setChannel c x).channel c = x := by simp [State.channel_setChannel]

@[simp] theorem State.cursor_setCursor_same (s : State) (c : Nat) (x : Cursor) :
    (s.setCursor c x).cursor c = x := by simp [State.cursor_setCursor]

@[simp] theorem State.bin_setBin_same (s : State) (b : Nat) (x : Bin) : (s.setBin b x).bin b = x := by
  simp [State.bin_setBin]

@[simp] theorem State.entry_setEntry_same (s : State) (n : Nat) (e : Entry) : (s.setEntry n e).entry n = some e := by
  simp [State.entry_setEntry]

@[simp] theorem State.entry_freeEntry_same (s : State) (n : Nat) : (s.freeEntry n).entry n = none := by
  simp [State.entry_freeEntry]

theorem State.letter_of_letters {s t : State} (h : t.letters = s.letters) (n : Nat) : t.letter n = s.letter n := by
  simp [State.letter, h]

theorem State.channel_of_channels {s t : State} (h : t.channels = s.channels) (n : Nat) :
    t.channel n = s.channel n := by simp [State.channel, h]

theorem State.cursor_of_cursors {s t : State} (h : t.cursors = s.cursors) (n : Nat) :
    t.cursor n = s.cursor n := by simp [State.cursor, h]

theorem State.entry_of_entries {s t : State} (h : t.entries = s.entries) (n : Nat) : t.entry n = s.entry n := by
  simp [State.entry, h]

/-! ### Bytes -/

@[simp] theorem length_leBytes (n v : Nat) : (leBytes n v).length = n := by
  induction n generalizing v with
  | zero => rfl
  | succ n ih => simp [leBytes, ih]

/-- Little-endian bytes give back the value modulo their range. -/
theorem leNat_leBytes (n v : Nat) : leNat (leBytes n v) = v % 256 ^ n := by
  induction n generalizing v with
  | zero => simp [leBytes, leNat, Nat.mod_one]
  | succ n ih =>
    rw [leBytes, leNat, ih, Nat.pow_succ, Nat.mul_comm (256 ^ n) 256, Nat.mod_mul]
    rfl

/-! ### Reporting (R178) -/

/-- While UNCONFIGURED a post leaves no trace. -/
theorem post_unconfigured (n : Notice) {s : State} (h : s.part = .unconfigured) : post n s = s := by
  simp [post, h]

/-- A post with room and no overflow outstanding writes the notice, then the status block. -/
theorem post_written (n : Notice) {s : State} (h : s.canPost) : post n s = (s.writeNotice n).writeStatus := by
  obtain ⟨hp, ho, hf⟩ := h
  simp [post, hp, State.reportLost, ho, State.ringNotice, hf]

/-- A post to a full ring is counted and sets the overflow flag. -/
theorem post_full (n : Notice) {s : State} (hp : s.part ≠ .unconfigured) (hf : s.ringFull = true) :
    post n s = ({ s with overflow := true, lost := min (s.lost + 1) 65535 } : State).writeStatus := by
  simp [post, hp, State.reportLost, State.ringNotice, hf]

/-- A post with room issues the write of its notice first. -/
theorem post_announces (n : Notice) {s : State} (h : s.canPost) : Announces n s (post n s) := by
  rw [post_written n h]
  exact ⟨[partWrite ((s.writeNotice n).cp + 0x80) (s.writeNotice n).statusBytes], by
    simp [State.writeStatus, State.emitWrite, State.emit, State.writeNotice, partWrite, State.noticeWrite]⟩

theorem post_portOut_grows (n : Notice) (s : State) : ∃ more, (post n s).portOut = s.portOut ++ more := by
  simp only [post, State.reportLost, State.ringNotice]
  split
  · exact ⟨[], by simp⟩
  · split <;> split <;>
      simp [State.writeStatus, State.emitWrite, State.emit, State.writeNotice]

/-- A post changes the notice ring's fields and the issued requests only. -/
@[simp] theorem post_unreported (n : Notice) (s : State) : (post n s).unreported = s.unreported := by
  have hr : s.reportLost.unreported = s.unreported := by unfold State.reportLost; split <;> rfl
  have hn (u : State) : (u.ringNotice n).unreported = u.unreported := by unfold State.ringNotice; split <;> rfl
  unfold post
  split
  · rfl
  · exact (hn _).trans hr

@[simp] theorem post_consumer (n : Notice) (s : State) : (post n s).consumer = s.consumer :=
  (congrArg State.consumer (post_unreported n s) :)

@[simp] theorem post_fetching (n : Notice) (s : State) : (post n s).fetching = s.fetching :=
  (congrArg State.fetching (post_unreported n s) :)

@[simp] theorem post_lastResult (n : Notice) (s : State) : (post n s).lastResult = s.lastResult :=
  (congrArg State.lastResult (post_unreported n s) :)

@[simp] theorem post_lastSlot (n : Notice) (s : State) : (post n s).lastSlot = s.lastSlot :=
  (congrArg State.lastSlot (post_unreported n s) :)

/-! ### Taking a command (R174, R175) -/

@[simp] theorem fetchNext_consumer (s : State) : (fetchNext s).consumer = s.consumer := by
  simp only [fetchNext]; split <;> rfl

@[simp] theorem fetchNext_lastResult (s : State) : (fetchNext s).lastResult = s.lastResult := by
  simp only [fetchNext]; split <;> rfl

@[simp] theorem fetchNext_lastSlot (s : State) : (fetchNext s).lastSlot = s.lastSlot := by
  simp only [fetchNext]; split <;> rfl

theorem fetchNext_portOut_grows (s : State) : ∃ more, (fetchNext s).portOut = s.portOut ++ more := by
  simp only [fetchNext]
  split
  · exact ⟨_, rfl⟩
  · exact ⟨[], by simp⟩

@[simp] theorem retire_consumer (s : State) : (retire s).consumer = (s.consumer + 1) % 64 := by simp [retire]; rfl
@[simp] theorem retire_lastResult (s : State) : (retire s).lastResult = s.lastResult := by simp [retire]; rfl
@[simp] theorem retire_lastSlot (s : State) : (retire s).lastSlot = s.lastSlot := by simp [retire]; rfl

@[simp] theorem retire_prod (s : State) : (retire s).prod = s.prod := by
  unfold retire fetchNext; split <;> rfl

theorem retire_portOut_grows (s : State) : ∃ more, (retire s).portOut = s.portOut ++ more := by
  obtain ⟨m, hm⟩ := fetchNext_portOut_grows
    ({ s with consumer := (s.consumer + 1) % 64, fetching := false, cfgPending := false }.writeStatus)
  refine ⟨partWrite (s.cp + 0x80) ({ s with consumer := (s.consumer + 1) % 64, fetching := false
                                            cfgPending := false } : State).statusBytes :: m, ?_⟩
  rw [retire, hm]
  simp [State.writeStatus, State.emitWrite, State.emit, partWrite, State.cp]

/-- A command that changes s to e and is answered ends as `Answered` says. -/
theorem retire_answer {l u : Option Nat} {r : Result} {d : List Byte} {s e : State}
    (hc : e.consumer = s.consumer) (ho : e.portOut = s.portOut) (hn : s.canPost → e.canPost)
    (hp : e.prod = s.prod) (ht : e.tsc = s.tsc) (hg : e.cfg = s.cfg) :
    Answered l u r d e s (retire (answer l u r d e)) where
  effect := by simp
  result := by simp [answer, setLast]
  slot := by simp [answer, setLast, hc]
  taken := by simp [answer, setLast, hc]
  notice h := by
    have h2 : (setLast r e).canPost := hn h
    obtain ⟨a, ha⟩ := post_announces (commandDone e.consumer l u r d) h2
    obtain ⟨b, hb⟩ := retire_portOut_grows (answer l u r d e)
    refine ⟨a ++ b, ?_⟩
    rw [hb, answer, ha]
    simp [setLast, State.noticeWrite, ho, hc, hp, ht, hg]
  once h := by
    have h2 : (setLast r e).canPost := hn h
    rw [retire_prod, answer, post_written _ h2]
    show ((setLast r e).prod + 1) % (setLast r e).ringSize = _
    simp [setLast, hp, State.ringSize, hg]

/-! ### Bins (R47 to R51) -/

/-- A change of a bin that leaves it referenced is only that change. -/
theorem updateBin_kept {b : Nat} {f : Bin → Bin} {s : State} (h : (f (s.bin b)).unreferenced = false) :
    updateBin b f s = s.setBin b (f (s.bin b)) := by simp [updateBin, h]

/-- A change of a bin that leaves it unreferenced frees it to the tail of the free bin list (R50). -/
theorem updateBin_freed {b : Nat} {f : Bin → Bin} {s : State} (h : (f (s.bin b)).unreferenced = true) :
    updateBin b f s =
      { s.setBin b { f (s.bin b) with state := .free, fill := 0 } with freeBins := s.freeBins ++ [b] } := by
  simp [updateBin, h]

/-- A bin that was just handed out from is referenced. -/
theorem handOut_referenced (r : Bin) (c : Nat) : (r.handOut c).unreferenced = false := by
  simp [Bin.unreferenced, Bin.handOut]

/-- A slot of the channel's OPEN bin is handed out first (R47). -/
theorem handOut_open {c b : Nat} {s : State} (h : s.openBin c = some b) :
    handOut c s = (some (b, (s.bin b).fill), s.setBin b ((s.bin b).handOut c)) := by
  rw [handOut, h, ← updateBin_kept (f := fun r => r.handOut c) (handOut_referenced _ _)]

/-- Without an OPEN bin the head of the free bin list is taken (R47). -/
theorem handOut_fresh {c b : Nat} {r : List Nat} {s : State} (h : s.openBin c = none) (hf : s.freeBins = b :: r) :
    handOut c s = (some (b, (s.bin b).fill), { s.setBin b ((s.bin b).handOut c) with freeBins := r }) := by
  simp only [handOut, h, hf]
  rw [updateBin_kept (f := fun r => r.handOut c) (handOut_referenced _ _)]
  rfl

/-- With neither, no slot is handed out and nothing changes (R47). -/
theorem handOut_none {c : Nat} {s : State} (h : s.openBin c = none) (hf : s.freeBins = []) :
    handOut c s = (none, s) := by simp [handOut, h, hf]

/-! ### Lookup of a need (R114) -/

theorem lookupNeed_hit {s : State} {n : Need} {e : CacheEntry}
    (h : s.cache.find? (CacheEntry.validFor n.letter n.frame) = some e) :
    lookupNeed s n = copyNeed e.samples { s with cache := cacheRecent e.num e.st s.cache } n := by
  have ha : s.cache.any (CacheEntry.validFor n.letter n.frame) = true :=
    List.any_eq_true.mpr ⟨e, List.mem_of_find?_eq_some h, List.find?_some h⟩
  simp [lookupNeed, settleNeed, lookupEnd, ha, hitNeed, h]

theorem lookupNeed_full {s : State} {n : Need} (h : lookupEnd n s = .full) :
    lookupNeed s n = { s with room := s.room ++ [n], roomDue := dueAfter 0 s } := by simp [lookupNeed, h]

theorem lookupNeed_settled {s : State} {n : Need} (h : lookupEnd n s ≠ .full) : lookupNeed s n = settleNeed n s := by
  simp [lookupNeed, h]

/-! ### The room waiting list (R115) -/

/-- Departures from the queue are owed to a room waiting list that holds a need, and to no other. -/
theorem depart_roomDue (k : Nat) (s : State) : (depart k s).roomDue = if s.room = [] then 0 else s.roomDue + k := rfl

theorem depart_room (k : Nat) (s : State) : (depart k s).room = s.room := rfl

/-- A round whose first lookup finds the queue full again leaves the list as it is. -/
theorem serveRoom_full {s : State} {n : Need} {r : List Need} (h : lookupEnd n s = .full) :
    serveRoom (n :: r) s = { s with room := n :: r } := by simp [serveRoom, h]

/-- A round ends with the lookup that makes a request. -/
theorem serveRoom_requested {s : State} {n : Need} {r : List Need} (h : lookupEnd n s = .requested) :
    serveRoom (n :: r) s = { settleNeed n s with room := r } := by simp [serveRoom, h]

/-! ### Runs and writes (R84, R90, R91) -/

/-- With no current run there is none to end. -/
theorem endCurrentRun_none {c : Nat} {s : State} (h : (s.channel c).runKind = none) : endCurrentRun c s = s := by
  simp [endCurrentRun, h]

/-- After the end of the current run the channel has none. -/
theorem endCurrentRun_runKind (c : Nat) (s : State) : ((endCurrentRun c s).channel c).runKind = none := by
  unfold endCurrentRun
  split
  · simp [endRun]
  · exact Option.not_isSome_iff_eq_none.mp ‹_›

/-- A held write that begins a run is taken at once when the end of the current run leaves the queue empty. -/
theorem considerHead_begins {k c n : Nat} {e : Entry} {s : State} (h : headWrite c s = some (n, e))
    (hb : beginsRun (s.channel c) e = true) (hq : ((endCurrentRun c s).channel c).queue = []) :
    considerHead (k + 1) c s = considerHead k c (takeFirst c n e (endCurrentRun c s)) := by
  simp [considerHead, h, hb, hq]

/-- With frames left in the queue the run-starting write waits. -/
theorem considerHead_waits {k c n : Nat} {e : Entry} {s : State} (h : headWrite c s = some (n, e))
    (hb : beginsRun (s.channel c) e = true) (hq : ((endCurrentRun c s).channel c).queue ≠ []) :
    considerHead (k + 1) c s = endCurrentRun c s := by
  simp [considerHead, h, hb, hq]

/-! ### Closing a letter (R26, R105) -/

/-- A close completes at once exactly when flushing leaves the channel's queue empty. -/
theorem startClose_empty {c n : Nat} {s : State} (h : ((flushChannel c (addLong false n s)).channel c).queue = []) :
    startClose c n s = completeClose c n (flushChannel c (addLong false n s)) := by simp [startClose, h]

theorem startClose_waits {c n : Nat} {s : State} (h : ((flushChannel c (addLong false n s)).channel c).queue ≠ []) :
    startClose c n s = flushChannel c (addLong false n s) := by simp [startClose, h]

end Sys2Proof.Machine
end

