-- ==== Sys2Proof/Laws/Commands.lean ====
section
/-! SUPPORT. What no command changes but the resets and the configuration: the wide part of the state, operation by
operation and for every command. -/

namespace Sys2Proof.Machine

open Sys2Proof

/-- The part of the state that only resets, the configuration answer and the end of a pool reset change: pins and
straps apart, the queue of commands, the timestamp counter, the part state and the configuration copy. -/
def State.wide (s : State) : State :=
  { s.writeMask with
    nextRank := 0, longs := [], freeCues := 0, engine0 := .free, engine1 := .free, pressedPtr := 0, unpressedPtr := 0
    drq := [], room := [], roomDue := 0, freeIdx := 0, linkOut := [], cpsel := 0, resetPin := false, linkResetPin := false
    prodCopy := 0, consCopy := 0, poolRun := none, cursors := [], binCount := 0 }

theorem wide_of_writeMask {s t : State} (h : t.writeMask = s.writeMask) : t.wide = s.wide := by
  have := congrArg State.wide h
  exact this
theorem wide_of_readMask {s t : State} (h : t.readMask = s.readMask) : t.wide = s.wide := (congrArg State.wide h :)
theorem wide_of_body {s t : State} (h : t.body = s.body) : t.wide = s.wide := (congrArg State.wide h :)
theorem wide_of_entryMask {s t : State} (h : t.entryMask = s.entryMask) : t.wide = s.wide := (congrArg State.wide h :)
theorem wide_of_recMask {s t : State} (h : t.recMask = s.recMask) : t.wide = s.wide := (congrArg State.wide h :)

@[simp] theorem post_wide (n : Notice) (s : State) : (post n s).wide = s.wide := wide_of_body (post_body _ _)
@[simp] theorem answer_wide (l u r d) (s : State) : (answer l u r d s).wide = s.wide := wide_of_body (answer_body _ _ _ _ _)
@[simp] theorem retire_wide (s : State) : (retire s).wide = s.wide := wide_of_body (retire_body _)
@[simp] theorem fetchNext_wide (s : State) : (fetchNext s).wide = s.wide := wide_of_body (fetchNext_body _)
@[simp] theorem setLast_wide (r) (s : State) : (setLast r s).wide = s.wide := wide_of_body (setLast_body _ _)
@[simp] theorem setLetter_wide (s : State) (n l) : (s.setLetter n l).wide = s.wide := rfl
@[simp] theorem setChannel_wide (s : State) (n l) : (s.setChannel n l).wide = s.wide := rfl
@[simp] theorem setCursor_wide (s : State) (n l) : (s.setCursor n l).wide = s.wide := rfl
@[simp] theorem setEntry_wide (s : State) (n l) : (s.setEntry n l).wide = s.wide := rfl
@[simp] theorem freeEntry_wide (s : State) (n) : (s.freeEntry n).wide = s.wide := rfl
@[simp] theorem emitRead_wide (s : State) (n m) : (s.emitRead n m).wide = s.wide := rfl
@[simp] theorem emitWrite_wide (s : State) (n m) : (s.emitWrite n m).wide = s.wide := rfl
@[simp] theorem emit_wide (s : State) (n) : (s.emit n).wide = s.wide := rfl
@[simp] theorem bumpFree_wide (s : State) : (s.bumpFree).wide = s.wide := rfl
@[simp] theorem writeStatus_wide (s : State) : (s.writeStatus).wide = s.wide := rfl
@[simp] theorem setEngine_wide (s : State) (e x) : (s.setEngine e x).wide = s.wide := by unfold State.setEngine; split <;> rfl
@[simp] theorem invalidate_wide (p) (s : State) : (invalidate p s).wide = s.wide := rfl
@[simp] theorem dropNeeds_wide (p) (s : State) : (dropNeeds p s).wide = s.wide := rfl
@[simp] theorem retargetAll_wide (p) (s : State) : (retargetAll p s).wide = s.wide := rfl
@[simp] theorem updateBin_wide (b f) (s : State) : (updateBin b f s).wide = s.wide := wide_of_recMask (updateBin_recMask _ _ _)
@[simp] theorem refuseEntry_wide (n r c) (s : State) : (refuseEntry n r c s).wide = s.wide := wide_of_entryMask (refuseEntry_entryMask _ _ _ _)
@[simp] theorem okEntry_wide (n) (s : State) : (okEntry n s).wide = s.wide := wide_of_entryMask (okEntry_entryMask _ _)
@[simp] theorem serveWaiters_wide (n r) (s : State) : (serveWaiters n r s).wide = s.wide := wide_of_entryMask (serveWaiters_entryMask _ _ _)
@[simp] theorem mapBuffer_wide (n r) (s : State) : (mapBuffer n r s).wide = s.wide := wide_of_entryMask (mapBuffer_entryMask _ _ _)
@[simp] theorem refuseWrites_wide (n r) (s : State) : (refuseWrites n r s).wide = s.wide := wide_of_entryMask (refuseWrites_entryMask _ _ _)
@[simp] theorem refuseHeld_wide (n) (s : State) : (refuseHeld n s).wide = s.wide := wide_of_entryMask (refuseHeld_entryMask _ _)
@[simp] theorem lookupAll_wide (n) (s : State) : (lookupAll n s).wide = s.wide := wide_of_readMask (lookupAll_readMask _ _)
@[simp] theorem settleNeed_wide (n) (s : State) : (settleNeed n s).wide = s.wide := wide_of_readMask (settleNeed_readMask _ _)
@[simp] theorem serveRoom_wide (n) (s : State) : (serveRoom n s).wide = s.wide := wide_of_readMask (serveRoom_readMask _ _)
@[simp] theorem startFrames_wide (n l fs e) (s : State) : (startFrames n l fs e s).wide = s.wide := wide_of_readMask (startFrames_readMask _ _ _ _ _)
@[simp] theorem takePcmRead_wide (n e) (s : State) : (takePcmRead n e s).wide = s.wide := wide_of_readMask (takePcmRead_readMask _ _ _)
@[simp] theorem refuseReads_wide (n) (s : State) : (refuseReads n s).wide = s.wide := wide_of_readMask (refuseReads_readMask _ _)
@[simp] theorem setDamaged_wide (n) (s : State) : (setDamaged n s).wide = s.wide := wide_of_recMask (setDamaged_recMask _ _)
@[simp] theorem lowerLive_wide (n m) (s : State) : (lowerLive n m s).wide = s.wide := wide_of_recMask (lowerLive_recMask _ _ _)
@[simp] theorem handOut_wide (n) (s : State) : (handOut n s).2.wide = s.wide := wide_of_recMask (handOut_recMask _ _)
@[simp] theorem dropFrame_wide (a b c) (s : State) : (dropFrame a b c s).wide = s.wide := wide_of_recMask (dropFrame_recMask _ _ _ _)
@[simp] theorem settleQueue_wide (a) (s : State) : (settleQueue a s).wide = s.wide := wide_of_recMask (settleQueue_recMask _ _)
@[simp] theorem endRun_wide (a) (s : State) : (endRun a s).wide = s.wide := wide_of_recMask (endRun_recMask _ _)
@[simp] theorem endCurrentRun_wide (a) (s : State) : (endCurrentRun a s).wide = s.wide :=
  wide_of_recMask (endCurrentRun_recMask _ _)
@[simp] theorem takeFirst_wide (a b c) (s : State) : (takeFirst a b c s).wide = s.wide :=
  wide_of_writeMask (takeFirst_writeMask _ _ _ _)
@[simp] theorem dropRequests_wide (n) (s : State) : (dropRequests n s).wide = s.wide := rfl
@[simp] theorem depart_wide (n) (s : State) : (depart n s).wide = s.wide := rfl
@[simp] theorem addLong_wide (b n) (s : State) : (addLong b n s).wide = s.wide := rfl
@[simp] theorem leaveList_wide (a b) (s : State) : (leaveList a b s).wide = s.wide := rfl
@[simp] theorem beginRun_wide (a b) (s : State) : (beginRun a b s).wide = s.wide := rfl
@[simp] theorem takeWrite_wide (a b c) (s : State) : (takeWrite a b c s).wide = s.wide := wide_of_writeMask (takeWrite_writeMask _ _ _ _)
@[simp] theorem consider_wide (a) (s : State) : (consider a s).wide = s.wide := wide_of_writeMask (consider_writeMask _ _)
@[simp] theorem handWrite_wide (a b c) (s : State) : (handWrite a b c s).wide = s.wide := wide_of_writeMask (handWrite_writeMask _ _ _ _)

theorem postAll_wide (ns) (s : State) : (postAll ns s).wide = s.wide := by
  unfold postAll
  induction ns generalizing s with
  | nil => rfl
  | cons n r ih => simp [ih]
@[simp] theorem issueReads_wide (as) (s : State) : (issueReads as s).wide = s.wide := by
  unfold issueReads
  have h1 (l : List Nat) (u : State) : (l.foldl (fun t b => holdBin b t) u).wide = u.wide := by
    induction l generalizing u with
    | nil => rfl
    | cons n r ih => rw [List.foldl_cons, ih]; simp [holdBin]
  have h2 (l : List Access) (u : State) : (l.foldl (fun t a => t.emitRead (t.slotAddr a.bin a.slot) 80) u).wide = u.wide := by
    induction l generalizing u with
    | nil => rfl
    | cons n r ih => simp [ih]
  simp only [h1, h2]; rfl
@[simp] theorem startSlots_wide (n e as) (s : State) : (startSlots n e as s).wide = s.wide := by
  unfold startSlots; split <;> simp
@[simp] theorem takeCursorRead_wide (n e) (s : State) : (takeCursorRead n e s).wide = s.wide := by
  unfold takeCursorRead; dsimp only; split <;> simp [postAll_wide]
@[simp] theorem handOver_wide (n e) (s : State) : (handOver n e s).wide = s.wide := by
  unfold handOver; split
  · simp
  · unfold handLetter handRead takeTimeRead takeRawRead; dsimp only
    repeat' split
    all_goals simp
@[simp] theorem acceptTxn_wide (n t) (s : State) : (acceptTxn n t s).wide = s.wide := by
  unfold acceptTxn; dsimp only; split <;> simp <;> rfl
@[simp] theorem watchWrite_wide (e) (s : State) : (watchWrite e s).wide = s.wide := by
  unfold watchWrite; simp; rfl
@[simp] theorem answerForwarded_wide (n e c d) (s : State) : (answerForwarded n e c d s).wide = s.wide := by
  unfold answerForwarded; dsimp only; repeat' split
  all_goals simp
@[simp] theorem retireAccess_wide (a) (s : State) : (retireAccess a s).wide = s.wide := by
  have hr (b : Nat) (u : State) : (releaseBin b u).wide = u.wide := by
    unfold releaseBin; split <;> simp
  unfold retireAccess; dsimp only; split
  · rfl
  · rw [hr]; rfl
@[simp] theorem finishRead_wide (a n) (s : State) : (finishRead a n s).wide = s.wide := by
  unfold finishRead; repeat' split
  all_goals simp
@[simp] theorem faultNotice_wide (a n) (s : State) : (faultNotice a n s).wide = s.wide := by
  unfold faultNotice; repeat' split
  all_goals simp
@[simp] theorem exportTest_wide (a n d) (s : State) : (exportTest a n d s).wide = s.wide := by
  unfold exportTest; repeat' split
  all_goals simp
@[simp] theorem finishLong_wide (a) (s : State) : (finishLong a s).wide = s.wide := by
  unfold finishLong; repeat' split
  all_goals simp
  all_goals rfl
@[simp] theorem endWalk_wide (a) (s : State) : (endWalk a s).wide = s.wide := by
  unfold endWalk; simp; rfl
@[simp] theorem walkEmpty_wide (a) (s : State) : (walkEmpty a s).wide = s.wide := by
  induction a generalizing s with
  | zero => rfl
  | succ k ih => unfold walkEmpty; repeat' split
                 all_goals simp [ih]
@[simp] theorem nextWalks_wide (s : State) : (nextWalks s).wide = s.wide := walkEmpty_wide _ _
@[simp] theorem returnSegment_wide (a b c) (s : State) : (returnSegment a b c s).wide = s.wide := by
  have hr : (returnBin b s).wide = s.wide := by unfold returnBin; split <;> simp
  unfold returnSegment; dsimp only
  exact (rfl : _ = (returnBin b s).wide).trans hr
@[simp] theorem walkStep_wide (s : State) : (walkStep s).wide = s.wide := by
  unfold walkStep; dsimp only; repeat' split
  all_goals simp
@[simp] theorem startDiscard_wide (n) (s : State) : (startDiscard n s).wide = s.wide := by
  unfold startDiscard; dsimp only
  split <;> simp
@[simp] theorem flushChannel_wide (c) (s : State) : (flushChannel c s).wide = s.wide := by
  unfold flushChannel; simp
@[simp] theorem completeClose_wide (c n) (s : State) : (completeClose c n s).wide = s.wide := by
  simp [completeClose]
@[simp] theorem startClose_wide (c n) (s : State) : (startClose c n s).wide = s.wide := by
  unfold startClose; dsimp only
  split <;> simp

/-- A ring command keeps the wide part when its body does. -/
theorem ringCommand_wide (l u) (b : State → State) (s : State) (h : (b s).wide = s.wide) : (ringCommand l u b s).wide = s.wide := by
  unfold ringCommand; repeat' split
  all_goals simp [h]

/-- Every command but the resets, the configuration answer and the pool reset keeps the wide part of the state. -/
theorem wide_exec (c : Instr) (s t : State) (h : exec c s = .next t)
   (h1 : c ≠ .powerOnReset) (h2 : ∀ p, c ≠ .resetRelease p) (h3 : ∀ code data, c ≠ .configurationReadAnswer code data)
   (h4 : c ≠ .poolResetEnd) (h5 : ∀ o, c ≠ .poolReset o) : t.wide = s.wide := by
  cases c with
  | powerOnReset => exact absurd rfl h1
  | resetRelease p => exact absurd rfl (h2 p)
  | configurationReadAnswer a b => exact absurd rfl (h3 a b)
  | poolResetEnd => exact absurd rfl h4
  | poolReset o => exact absurd rfl (h5 o)
  | linkReset => 
    simp only [exec, execLinkReset] at h
    split at h <;> cases h <;> rfl
  | linkResetRelease => cases h; rfl
  | transactionAccept n x =>
    simp only [exec, execTransactionAccept] at h
    repeat' split at h
    all_goals cases h
    all_goals simp
  | memoryResponse => 
    simp only [exec, execMemoryResponse] at h
    repeat' split at h
    all_goals cases h
    all_goals simp
  | responseTaken => 
    simp only [exec, execResponseTaken] at h
    repeat' split at h
    all_goals cases h
    all_goals rfl
  | holdExpiry => 
    simp only [exec, execHoldExpiry] at h
    repeat' split at h
    all_goals cases h
    all_goals try rfl
    · unfold expireWrite; dsimp only; split <;> simp
    · unfold expireRead; simp
  | commandProducerIndexWrite => 
    simp only [exec, execCommandProducerIndexWrite] at h
    repeat' split at h
    all_goals cases h
    all_goals simp
  | noticeConsumerIndexWrite => 
    simp only [exec, execNoticeConsumerIndexWrite] at h
    repeat' split at h
    all_goals cases h
    all_goals simp
  | badCommand => 
    simp only [exec, execBadCommand] at h
    repeat' split at h
    all_goals cases h
    all_goals simp
  | configure => 
    cases h
    repeat' split
    all_goals simp
    all_goals rfl
  | letterOpen => 
    cases h; apply ringCommand_wide; unfold openLetter attachChannel; dsimp only
    repeat' split
    all_goals simp
  | letterClose => 
    cases h; apply ringCommand_wide; unfold closeLetter; dsimp only
    repeat' split
    all_goals simp
  | closeCompletion => 
    simp only [exec, execCloseCompletion] at h
    repeat' split at h
    all_goals cases h
    all_goals try rfl
    simp
  | letterFile => 
    cases h; apply ringCommand_wide; unfold fileLetter
    repeat' split
    all_goals simp
  | letterHold => 
    cases h; apply ringCommand_wide; unfold holdLetter
    repeat' split
    all_goals simp
  | letterDiscard => 
    cases h; apply ringCommand_wide; unfold discardLetter; dsimp only
    repeat' split
    all_goals simp
  | discardWalkStep => cases h; simp
  | letterQuery => 
    cases h; apply ringCommand_wide; unfold queryLetter; dsimp only
    repeat' split
    all_goals simp
  | channelSet => 
    cases h; apply ringCommand_wide; unfold setParams; dsimp only
    repeat' split
    all_goals simp
  | cursorAttach => 
    cases h; apply ringCommand_wide; unfold attachCursor joinLetter leaveLetter; dsimp only
    repeat' split
    all_goals simp
  | cursorDetach => 
    cases h; apply ringCommand_wide; unfold detachCursor leaveLetter; dsimp only
    repeat' split
    all_goals simp
  | cursorStep => 
    cases h; apply ringCommand_wide; unfold stepCursor; dsimp only
    repeat' split
    all_goals simp
  | cursorRate => 
    cases h; apply ringCommand_wide; unfold rateCursor; dsimp only
    repeat' split
    all_goals simp
  | cursorTarget => 
    cases h; apply ringCommand_wide; unfold targetCursor; dsimp only
    repeat' split
    all_goals simp
  | cueAdd => 
    cases h; apply ringCommand_wide; unfold addCue addCueAt; dsimp only
    repeat' split
    all_goals simp
    rfl
  | cueRemove => 
    cases h; apply ringCommand_wide; unfold dropCue removeCueAt; dsimp only
    repeat' split
    all_goals simp
    rfl
  | encodeGrant e => 
    simp only [exec, execEncodeGrant] at h
    repeat' split at h
    all_goals cases h
    all_goals try rfl
    unfold grantEncode movePointer; dsimp only
    split <;> simp <;> split <;> rfl
  | codingComplete => 
    simp only [exec, execCodingComplete] at h
    repeat' split at h
    all_goals cases h
    all_goals simp
  | encodeJobComplete => 
    simp only [exec, execEncodeJobComplete] at h
    split at h
    all_goals cases h
    all_goals try rfl
    unfold endEncode; dsimp only
    repeat' split
    all_goals simp
  | decodeGrant => 
    simp only [exec, execDecodeGrant] at h
    repeat' split at h
    all_goals cases h
    all_goals try rfl
    unfold grantDecode; dsimp only
    repeat' split
    all_goals simp
    all_goals rfl
  | decodeReadAnswer => 
    simp only [exec, execDecodeReadAnswer] at h
    repeat' split at h
    all_goals cases h
    all_goals simp
  | decodeJobComplete => 
    simp only [exec, execDecodeJobComplete] at h
    split at h
    all_goals cases h
    all_goals try rfl
    unfold completeFilling completeStale; dsimp only
    repeat' split
    all_goals simp
    all_goals (unfold State.setEngine; split <;> rfl)
  | roomWaitingLookup => 
    simp only [exec, execRoomWaitingLookup] at h
    split at h <;> cases h
    · exact serveRoom_wide _ _
    · rfl
  | writeTaken => 
    simp only [exec, execWriteTaken] at h
    repeat' split at h
    all_goals cases h
    all_goals simp
  | runBegin => 
    simp only [exec, execRunBegin] at h
    repeat' split at h
    all_goals cases h
    all_goals simp
  | timeSlotReadAnswer => 
    simp only [exec, execTimeSlotReadAnswer] at h
    repeat' split at h
    all_goals cases h
    all_goals simp [answerTime]
  | exportReadAnswer => 
    simp only [exec, execExportReadAnswer] at h
    repeat' split at h
    all_goals cases h
    all_goals simp [answerExport]
  | importWriteAnswer => 
    simp only [exec, execImportWriteAnswer] at h
    split at h
    all_goals cases h
    all_goals try rfl
    unfold answerImport
    repeat' split
    all_goals try simp
    all_goals rfl

end Sys2Proof.Machine
end

