-- ==== Sys2Proof/Laws/Cursors.lean ====
section
/-! SUPPORT. Cursor targets: recomputing the target gives the smallest candidate above the checked frame (R137). -/

namespace Sys2Proof.Machine

open Sys2Proof

/-- The first cue above k is a cue above k, and no cue between is missed. -/
theorem nextCue_spec (k : Int) (cues : List Cue) :
    match nextCue k cues with
    | none => ∀ c ∈ cues, (c.pos : Int) ≤ k
    | some g => (∃ c ∈ cues, c.pos = g) ∧ k < (g : Int) ∧ ∀ c ∈ cues, k < (c.pos : Int) → g ≤ c.pos := by
  induction cues with
  | nil => simp [nextCue]
  | cons c r ih =>
    unfold nextCue
    by_cases h : k < (c.pos : Int)
    · rw [if_pos h]
      cases hn : nextCue k r with
      | none =>
        rw [hn] at ih
        refine ⟨⟨c, by simp, rfl⟩, h, ?_⟩
        intro d hd hk
        rcases List.mem_cons.mp hd with rfl | hd
        · exact Nat.le_refl _
        · have := ih d hd; omega
      | some g =>
        rw [hn] at ih
        obtain ⟨⟨d, hd, hg⟩, hk, hm⟩ := ih
        refine ⟨?_, ?_, ?_⟩
        · by_cases hle : c.pos ≤ g
          · exact ⟨c, by simp, by simp [Nat.min_eq_left hle]⟩
          · exact ⟨d, by simp [hd], by simp [hg, Nat.min_eq_right (Nat.le_of_not_le hle)]⟩
        · show k < ((min c.pos g : Nat) : Int)
          omega
        · intro e he hk'
          show min c.pos g ≤ e.pos
          rcases List.mem_cons.mp he with rfl | he
          · exact Nat.min_le_left _ _
          · exact Nat.le_trans (Nat.min_le_right _ _) (hm e he hk')
    · rw [if_neg h]
      cases hn : nextCue k r with
      | none =>
        rw [hn] at ih
        intro d hd
        rcases List.mem_cons.mp hd with rfl | hd
        · omega
        · exact ih d hd
      | some g =>
        rw [hn] at ih
        obtain ⟨⟨d, hd, hg⟩, hk, hm⟩ := ih
        refine ⟨⟨d, by simp [hd], hg⟩, hk, ?_⟩
        intro e he hk'
        rcases List.mem_cons.mp he with rfl | he
        · omega
        · exact hm e he hk'

/-- The next multiple above k is positive, above k, and the smallest such. -/
theorem nextMultiple_spec (k : Int) (n : Nat) (hn : 0 < n) :
    ∃ m, 0 < m ∧ nextMultiple k n = some (m * n) ∧ k < ((m * n : Nat) : Int) ∧
      ∀ j, 0 < j → k < ((j * n : Nat) : Int) → m * n ≤ j * n := by
  have hne : n ≠ 0 := by omega
  refine ⟨k.toNat / n + 1, Nat.succ_pos _, ?_, ?_, ?_⟩
  · rw [nextMultiple, if_neg hne, Nat.add_mul, Nat.one_mul]
  · have h := Nat.lt_div_mul_add hn (a := k.toNat)
    rw [Nat.add_mul, Nat.one_mul]
    exact Int.lt_of_le_of_lt (Int.self_le_toNat k) (Int.ofNat_lt.mpr h)
  · intro j hj hk
    apply Nat.mul_le_mul_right
    have h1 : k.toNat < j * n ∨ k.toNat = 0 := by omega
    rcases h1 with h1 | h1
    · exact Nat.succ_le_of_lt ((Nat.div_lt_iff_lt_mul hn).mpr h1)
    · rw [h1, Nat.zero_div]; omega

/-- A recomputed target is the smallest candidate above the checked frame, or absent when there is none. -/
theorem retarget_isNext {k : Cursor} {cues : List Cue} (h : k.letter ≠ none) :
    (k.retarget cues).targetIsNext cues := by
  obtain ⟨n, hn⟩ := Option.ne_none_iff_exists'.mp h
  have hc := nextCue_spec k.checked cues
  have ht : (k.retarget cues).target =
      minOpt (if k.follow then nextCue k.checked cues else none) (nextMultiple k.checked k.interval) := by
    simp [Cursor.retarget, hn]
  have hcand : ∀ f : Nat, (k.retarget cues).candidate cues f ↔ k.candidate cues f := fun _ => Iff.rfl
  have hchk : (k.retarget cues).checked = k.checked := rfl
  unfold Cursor.targetIsNext
  simp only [hcand, hchk, ht]
  by_cases hi : k.interval = 0
  · have hm : nextMultiple k.checked k.interval = none := by simp [nextMultiple, hi]
    rw [hm]
    by_cases hf : k.follow = true
    · rw [if_pos hf]
      cases hx : nextCue k.checked cues with
      | none =>
        rw [hx] at hc
        rintro f (⟨-, c, hcm, rfl⟩ | ⟨hp, -⟩)
        · exact hc c hcm
        · omega
      | some g =>
        rw [hx] at hc
        obtain ⟨he, hk, hmin⟩ := hc
        refine ⟨.inl ⟨hf, he⟩, hk, ?_⟩
        rintro f (⟨-, c, hcm, rfl⟩ | ⟨hp, -⟩) hkf
        · exact hmin c hcm hkf
        · omega
    · rw [if_neg hf]
      rintro f (⟨hf', -⟩ | ⟨hp, -⟩)
      · exact absurd hf' hf
      · omega
  · obtain ⟨m, hm0, hmE, hmk, hmin'⟩ := nextMultiple_spec k.checked k.interval (by omega)
    rw [hmE]
    have hmul : ∀ f : Nat, k.checked < (f : Int) → (∃ j, 0 < j ∧ f = j * k.interval) → m * k.interval ≤ f := by
      rintro f hkf ⟨j, hj, rfl⟩
      exact hmin' j hj hkf
    by_cases hf : k.follow = true
    · rw [if_pos hf]
      cases hx : nextCue k.checked cues with
      | none =>
        rw [hx] at hc
        refine ⟨.inr ⟨by omega, m, hm0, rfl⟩, hmk, ?_⟩
        rintro f (⟨-, c, hcm, rfl⟩ | ⟨-, hj⟩) hkf
        · have := hc c hcm; omega
        · exact hmul f hkf hj
      | some g =>
        rw [hx] at hc
        obtain ⟨he, hk, hmin⟩ := hc
        show k.candidate cues (min g (m * k.interval)) ∧ k.checked < ((min g (m * k.interval) : Nat) : Int) ∧
          ∀ f : Nat, k.candidate cues f → k.checked < (f : Int) → min g (m * k.interval) ≤ f
        refine ⟨?_, by omega, ?_⟩
        · by_cases hle : g ≤ m * k.interval
          · rw [Nat.min_eq_left hle]; exact .inl ⟨hf, he⟩
          · rw [Nat.min_eq_right (Nat.le_of_not_le hle)]; exact .inr ⟨by omega, m, hm0, rfl⟩
        · rintro f (⟨-, c, hcm, rfl⟩ | ⟨-, hj⟩) hkf
          · exact Nat.le_trans (Nat.min_le_left _ _) (hmin c hcm hkf)
          · exact Nat.le_trans (Nat.min_le_right _ _) (hmul f hkf hj)
    · rw [if_neg hf]
      refine ⟨.inr ⟨by omega, m, hm0, rfl⟩, hmk, ?_⟩
      rintro f (⟨hf', -⟩ | ⟨-, hj⟩) hkf
      · exact absurd hf' hf
      · exact hmul f hkf hj

/-- A cursor without a letter has no target. -/
theorem retarget_idle {k : Cursor} {cues : List Cue} (h : k.letter = none) : (k.retarget cues).target = none := by
  simp [Cursor.retarget, h]

/-- Recomputing the target changes nothing else. -/
theorem retarget_rest (k : Cursor) (cues : List Cue) :
    { k.retarget cues with target := none } = { k with target := none } := rfl

end Sys2Proof.Machine
end

