-- ==== Sys2Proof/Laws/Link.lean ====
section
/-! SUPPORT. Acceptance on the link port: how a served transaction is classified and handed over. -/

namespace Sys2Proof.Machine

open Sys2Proof

/-- A transaction that passes every test of Table 1-3 is served by its span's owner. -/
theorem classify_serves {t : Txn} {view num : Nat} {s : State} (h : Serves t view num s) :
    classify s.cfg s.part t = .serve { view := view, num := num } := by
  obtain ⟨h1, ⟨c, hc, ht, he⟩, hv, hn, hm, hr, hw⟩ := h
  have hcl : claimed s.cfg (spanOf t.addr.toNat) = true := by
    simp only [claimed, hc]
    have h1 : spanOf t.addr.toNat / 2 ^ 13 = c.apTop := ht
    have h2 : spanView (spanOf t.addr.toNat) = view := hv
    rw [h1, h2, he]; simp
  have hl : spanOf (lastAddr t.addr.toNat t.len) = spanOf t.addr.toNat := h1
  have hv' : spanView (spanOf t.addr.toNat) = view := hv
  have hn' : spanNum (spanOf t.addr.toNat) = num := hn
  have h5 : ¬ 5 ≤ view := by omega
  have h6 : ¬ (view = 4 ∧ Config.units ≤ num) := by simp only [Config.units]; omega
  have e1 : (decide (5 ≤ view) || (decide (view = 4) && decide (Config.units ≤ num))) = false := by
    rw [decide_eq_false h5, ← Bool.decide_and, decide_eq_false h6]; rfl
  have e2 : (t.write && (decide (view = 2) || decide (view = 4))) = false := by
    cases hwr : t.write
    · rfl
    · obtain ⟨hv3, -⟩ := hw hwr
      rw [decide_eq_false (by omega), decide_eq_false (by omega)]; rfl
  have e3 : (t.write && t.strobes.contains false) = false := by
    cases hwr : t.write
    · rfl
    · rw [(hw hwr).2]; rfl
  unfold classify
  simp only [hl, hcl, hv', hn', spanSubject, e1, e2, e3, hr, Bool.true_and, Bool.not_true, Bool.false_and,
    Bool.false_eq_true, if_false, ne_eq, not_true_eq_false, if_true]


/-- The entry that a served transaction is held in. -/
def servedEntry (t : Txn) (view num : Nat) (s : State) : Entry :=
  { newEntry t s with subject := some { view := view, num := num } }

/-- A served transaction is held in its entry and handed to its owner (R6, R10). -/
theorem accept_serves {n : Fin 32} {t : Txn} {view num : Nat} {s : State} (hw : t.wf = true) (ho : linkOpen n s)
    (h : Serves t view num s) :
    exec (.transactionAccept n t) s = .next
      (handOver n (servedEntry t view num s)
        (({ s with nextRank := s.nextRank + 1 } : State).setEntry n (servedEntry t view num s))) := by
  have hc : canAccept n s = true := by
    obtain ⟨h1, h2, h3⟩ := ho
    simp only [canAccept, h1, h2, h3]; rfl
  have hk := classify_serves h
  simp only [exec, execTransactionAccept, hw, hc, if_true, acceptTxn, hk]
  rfl

end Sys2Proof.Machine
end

