-- ==== Sys2Proof/Tests/Slice0.lean ====
section
/-! SUPPORT. Tests: ill-formed commands, records written out from Table 10-5, the manual's worked values, one step of each
command, and for every statement with hypotheses states and operands that meet them. -/

namespace Sys2Proof.Tests

open Sys2Proof Sys2Proof.Machine

-- One theorem at a time: many at once need more threads than a small host has.
set_option Elab.async false

/-! ### Well-formedness, and decoding -/

/-- A read of the link port. -/
def rd (a len : Nat) : Txn :=
  { id := 7, write := false, addr := BitVec.ofNat 48 a, len := len, strobes := [], data := [] }

/-- A write of the link port with every strobe set. -/
def wr (a : Nat) (d : List Byte) : Txn :=
  { id := 7, write := true, addr := BitVec.ofNat 48 a, len := d.length, strobes := List.replicate d.length true, data := d }

theorem test_wf_length_zero : Instr.wf (.transactionAccept 0 (rd 0 0)) = false := by decide
theorem test_wf_length_257 : Instr.wf (.transactionAccept 0 (rd 0 257)) = false := by decide
theorem test_wf_length_256 : Instr.wf (.transactionAccept 0 (rd 0 256)) = true := by decide
theorem test_wf_strobes_missing : Instr.wf (.transactionAccept 0 { wr 0 [1, 2] with strobes := [true] }) = false := by decide
theorem test_wf_data_missing : Instr.wf (.transactionAccept 0 { wr 0 [1, 2] with data := [1] }) = false := by decide
theorem test_wf_read_with_strobes : Instr.wf (.transactionAccept 0 { rd 0 1 with strobes := [true] }) = false := by decide
theorem test_wf_read_with_data : Instr.wf (.transactionAccept 0 { rd 0 1 with data := [1] }) = false := by decide
theorem test_wf_known_code : Instr.wf (.badCommand (some 16)) = false := by decide
theorem test_wf_unknown_codes : Instr.wf (.badCommand (some 17)) = true ∧ Instr.wf (.badCommand (some 0)) = true := by
  decide
theorem test_wf_short_block : Instr.wf (.configurationReadAnswer .okay [0]) = false := by decide
theorem test_wf_short_record : Instr.wf (.decodeReadAnswer 0 .okay [0]) = false := by decide
theorem test_wf_short_time_answer : Instr.wf (.timeSlotReadAnswer 0 0 .okay [0]) = false := by decide
theorem test_wf_short_export_answer : Instr.wf (.exportReadAnswer 0 0 .okay [0]) = false := by decide
theorem test_ill_formed_is_refused :
    exec (.transactionAccept 0 (rd 0 0)) State.reset = .refused (.illFormed "TRANSACTION_ACCEPT") := by rfl

/-- LETTER_OPEN, code 3: option byte, letter 1025 at 02h, channel 258 at 04h, tag at 06h (Table 10-5). -/
theorem test_record_letter_open :
    commandOfRecord ([3, 0x81, 0x01, 0x04, 0x02, 0x01, 0x34, 0x12] ++ zeros 24) = .letterOpen 0x0401 0x0102 0x1234 0x81 := by
  decide

/-- CURSOR_RATE, code 13: cursor at 02h and V1 to V4 from 08h, least significant byte first (Table 10-5). -/
theorem test_record_cursor_rate :
    commandOfRecord ([13, 0, 5, 0, 0, 0, 0, 0, 0x00, 0x18, 0, 0, 0x00, 0x08, 0, 0, 1, 2, 3, 4, 5, 6, 7, 8] ++ zeros 8) =
      .cursorRate 5 0x1800 0x0800 0x04030201 0x08070605 := by decide

/-- CUE_ADD, code 15: kind in the option byte, letter at 02h, mode at 04h, tag at 06h, position at 08h (Table 10-5). -/
theorem test_record_cue_add :
    commandOfRecord ([15, 2, 0x21, 0, 1, 0, 0xCD, 0xAB, 0x38, 0x15, 0, 0] ++ zeros 20) = .cueAdd 33 2 1 0xABCD 0x1538 := by
  decide

/-- CHANNEL_SET, code 9: mode in the option byte, channel at 02h, V1 threshold, V2 hang, V3 cap (Table 10-5). -/
theorem test_record_channel_set :
    commandOfRecord ([9, 1, 11, 0, 0, 0, 0, 0, 0xFF, 0xFF, 0xFF, 0xFF, 3, 0, 0, 0, 0, 0x10, 0, 0] ++ zeros 12) =
      .channelSet 11 1 0xFFFFFFFF 3 0x1000 := by decide

theorem test_record_unknown : commandOfRecord (17 :: zeros 31) = .badCommand (some 17) := by decide

/-! ### The manual's worked values -/

/-- Table 1-7: the aperture at C000000000h with TIME disabled. -/
def table1_7 : Cfg :=
  { apTop := 3, pcm16 := true, pcm8 := true, time := false, raw := true, cursor := true, storeBase := 0x40000000, bins := 4
    ringBase := 0x30000000, ringSize := 64, holdLimit := 2000, irqEnable := true, quiet := 0 }

theorem test_table_1_7 :
    classify (some table1_7) .running (rd 0xC84A012345 1) = .serve { view := 1, num := 37 } ∧
    classify (some table1_7) .running (wr 0xC7FFFFFFFE [0, 0, 0, 0]) = .refuse .crossesSpan { view := 0, num := 1023 } ∧
    classify (some table1_7) .running (rd 0xE050000000 2) = .unmapped ∧
    classify (some table1_7) .running (rd 0xE800000000 64) = .unmapped ∧
    classify (some table1_7) .running (wr 0xBFFFFFFFFC (zeros 8)) = .refuse .crossesSpan { view := 0, num := 0 } ∧
    classify (some table1_7) .running (wr 0xD000000040 (zeros 4)) = .pass ∧
    classify (some table1_7) .running (rd 0x0001234000 256) = .pass := by decide

/-- Table 4-5: codes 1, 2, 10, 11 and the code-area bytes 21h, BAh. -/
theorem test_table_4_5 :
    encodeFrame [100, 130, 200, 120, 40] 16 = ([1, 2, 10, 11], 15) ∧ packCodes [1, 2, 10, 11] = [0x21, 0xBA] ∧
      decodeFrom [1, 2, 10, 11] 100 16 = [132, 192, 132, 42] := by decide

/-- Table 4-6: an onset of speech. -/
theorem test_table_4_6 : encodeFrom (List.replicate 8 8000) 0 16 = ([7, 7, 7, 7, 7, 7, 1, 0], 50) := by decide

/-- Table 4-7: coding at the limits. -/
theorem test_table_4_7 :
    encodeFrom [32767] 30000 48 = ([5], 51) ∧ reconstruct 30000 48 false 5 = 32560 ∧
    encodeFrom [32767] 32000 56 = ([1], 55) ∧ reconstruct 32000 56 false 1 = 32767 ∧
    encodeFrom [-32768] (-32000) 56 = ([9], 55) ∧ reconstruct (-32000) 56 true 1 = -32768 ∧
    encodeFrom [-32768] 0 79 = ([12], 79) ∧ encodeFrom [3] 0 0 = ([0], 0) ∧ encodeFrom [4] 0 0 = ([1], 0) := by decide

/-- Table 4-8: code 8 decodes as magnitude 0. -/
theorem test_table_4_8 : decodeFrom [3, 8, 8, 12] 500 20 = [644, 644, 644, 484] := by decide

/-- Table 4-9: a record of zeros fails with cause KIND (and would fail its check). -/
theorem test_table_4_9 : testRecord (zeros 80) = some .kind ∧ recordPasses (zeros 80) = false := by decide

/-- Table 7-3: positions of cursor 6 across its temporary interval. -/
theorem test_table_7_3 :
    let k := { Cursor.initial with letter := some 1, origin := 5120 * 4096, base := 2000, tempDur := 300, tempRate := 2048
                                   rate := 6144 }
    [1999, 2000, 2001, 2299, 2300, 2301, 2302].map (k.outPos 1000) =
      [.beforeBase, .at 5120 0 false, .at 5120 2048 false, .at 5269 2048 false, .at 5270 0 false, .at 5271 2048 false,
       .at 5273 0 false] := by decide

/-- Table 7-4: interpolation and rounding. -/
theorem test_table_7_4 :
    interpolate 100 101 2048 = 101 ∧ interpolate 101 100 2048 = 101 ∧ interpolate 100 103 1024 = 101 ∧
    interpolate 100 97 1024 = 99 ∧ interpolate (-32768) 32767 4095 = 32751 ∧
    interpolate 32767 (-32768) 4095 = -32752 := by decide

/-- Table 8-3: time codes. -/
theorem test_table_8_3 :
    [62, 63, 3749, 3750, 5432, 131071].map (fun f => [timeCode f 0, timeCode f 1, timeCode f 2]) =
      [[0x99, 0, 0], [0, 1, 0], [0x98, 0x59, 0], [0, 0, 1], [0x91, 0x26, 1], [0x13, 0x57, 0x34]] := by decide

/-- Table 8-4: flag bytes of speech frames. -/
theorem test_table_8_4 :
    [0, 2048, 5000, 30719, 32768].map (fun a => flagByte false false (levelOf a)) = [0, 0x10, 0x20, 0xE0, 0xF0] ∧
    flagByte false true (levelOf 30720) = 0xF2 ∧ flagByte true true 0 = 3 := by decide

/-- Letter 5 of Table 3-7. -/
def letter5 : Letter :=
  { Letter.free with state := .recording, channel := some 2, length := 12, speech := 6, hush := 6
                     segs := [.speech 7 10 4, .hush 6, .speech 7 14 2]
                     cues := [{ pos := 4, kind := .instruction, tag := 0 }, { pos := 12, kind := .brk, tag := 0 }] }

/-- A finished frame for letter 5, in slot `sl` of bin 7 or else hush. -/
def frame5 (target : Nat) (m : Mode) (sl : Option Nat) : FFrame :=
  { letter := 5, target := target, speech := sl.isSome, mode := m, cap := none, buffer := 0, stage := .ready
    place := sl.map fun k => (7, k) }

/-- Tables 3-8 to 3-10: three inserts and three overwrites. -/
theorem test_table_3_10 :
    let l := (((letter5.place (frame5 2 .insert (some 16))).place (frame5 3 .insert (some 17))).place
      (frame5 4 .insert none))
    let m := ((l.place (frame5 9 .overwrite (some 18))).place (frame5 10 .overwrite (some 19))).place
      (frame5 5 .overwrite none)
    l.segs.length = 6 ∧ l.cues.map Cue.pos = [7, 15] ∧ m.length = 15 ∧ m.speech = 9 ∧ m.hush = 6 ∧
    m.segs = [.speech 7 10 2, .speech 7 16 2, .hush 2, .speech 7 13 1, .hush 2, .speech 7 18 2, .hush 2,
              .speech 7 14 2] := by decide

/-! ### States -/

/-- A configuration with every view enabled; bases, sizes and limit as in Table 1-7. -/
def cfgA : Cfg := { table1_7 with time := true }

/-- A configured part with nothing recorded, straps 5. -/
def on : State :=
  { State.reset with resetPin := false, cpsel := 5, part := .running, cfg := some cfgA, binCount := 4, freeBins := [0, 1, 2, 3]
                     tsc := 5000 }

/-- Letter 7 records on channel 2: one speech frame in slot 0 of bin 0. -/
def letter7 : Letter :=
  { Letter.free with state := .recording, channel := some 2, length := 1, speech := 1, segs := [.speech 0 0 1] }

/-- Letter 9 is READY: two speech frames and a hush frame, a cue at 2, and cursor 1 attached. -/
def letter9 : Letter :=
  { Letter.free with state := .ready, length := 3, speech := 2, hush := 1, segs := [.speech 0 1 2, .hush 1]
                     cues := [{ pos := 2, kind := .spelling, tag := 5 }], cursorCount := 1, closed := some 400 }

/-- Channel 2 in a PCM run at the end of letter 7, with 100 samples in its fill buffer. -/
def channel2 : Channel :=
  { Channel.initial with state := .run, letter := some 7, runKind := some .pcm, nextIdx := some 228, editPoint := some 1
                         threshold := 0, buf0 := .filling (List.replicate 100 3) }

/-- Cursor 1 at the start of letter 9, following cues. -/
def cursor1 : Cursor := { Cursor.initial with letter := some 9, follow := true, target := some 2 }

/-- A part at work, with a command fetched from slot 0 of the ring. -/
def busy : State :=
  { on with
    fetching := true, prodCopy := 1
    letters := [(7, letter7), (9, letter9)], channels := [(2, channel2)], cursors := [(1, cursor1)]
    freeSegs := 16381, freeCues := 2047
    bins := [(0, { state := .open_ 2, fill := 3, live := 3, inFlight := 0, reads := 0 })], freeBins := [1, 2, 3]
    cache := (List.range 31).map (fun n => { num := n, st := .empty }) ++
      [{ num := 31, st := .valid 9 0 (List.replicate 128 (-2)) }] }

/-- An address of view, number and offset in the aperture of `cfgA`. -/
def ap (view num off : Nat) : Nat := 0xC000000000 + view * 2 ^ 35 + num * 2 ^ 25 + off

/-- The command answers a next state of which `p` holds. -/
def gives (c : Instr) (s : State) (p : State → Bool) : Bool :=
  match exec c s with
  | .next t => p t
  | _ => false

/-- The kinds and codes of the notices that a state's port writes carry, oldest first. -/
def notices (t : State) : List (Byte × Byte) :=
  (t.portOut.filter fun r => r.write && decide (r.len = 64) && decide (r.entry = none)).map fun r =>
    (r.data.getD 0 0, r.data.getD 5 0)

/-- An entry for a transaction, with a state. -/
def held (t : Txn) (view num rank : Nat) (st : EntryState) : Entry :=
  { newEntry t on with subject := some { view := view, num := num }, rank := rank, st := st, holdStart := 3000 }

/-! ### One step of each command -/

theorem test_power_on_reset : gives .powerOnReset busy (fun t => decide (t.part = .unconfigured) && decide (t.freeSegs = 16384)) := by
  decide +kernel
theorem test_reset_release : gives (.resetRelease 5) State.reset (fun t => decide (t.cp = 0x50000) && !t.resetPin) := by
  decide +kernel
theorem test_link_reset :
    gives .linkReset busy (fun t => decide ((t.channel 2).state = .attached) && decide ((t.channel 2).freeSpace = 256)) := by
  decide +kernel
theorem test_link_reset_release : gives .linkResetRelease { busy with linkResetPin := true } (fun t => !t.linkResetPin) := by
  decide +kernel

/-- The 100 samples and 28 more make a frame; 2 more begin the next (R92). -/
theorem test_transaction_accept_write :
    gives (.transactionAccept 4 (wr (ap 0 7 456) (zeros 60))) busy (fun t =>
      decide ((t.channel 2).nextIdx = some 258) && decide ((t.channel 2).editPoint = some 2) &&
        decide ((t.channel 2).buf1 = .filling [0, 0]) && decide ((t.channel 2).queue.length = 1)) := by decide +kernel
theorem test_transaction_accept_read :
    gives (.transactionAccept 4 (rd (ap 1 9 1) 2)) busy (fun t =>
      decide ((t.entry 4).map Entry.buf = some [0, 0]) && decide ((t.entry 4).map Entry.st = some .ready)) := by decide +kernel
theorem test_memory_response :
    gives (.memoryResponse 3 (.other (.unnamed 2)) [9, 8]) { busy with entries := [(3, held (rd 0x1000 2) 0 0 0 .forwarded)] } (fun t =>
      decide ((t.entry 3).map (fun e => (e.st, e.response, e.buf)) = some (.ready, some (.memory (.other (.unnamed 2))), [9, 8]))) := by
  decide +kernel

/-- Table 1-8, event 5: a READY entry waits behind an older one of its ID. -/
theorem test_response_taken_waits :
    gives (.responseTaken 1)
      { busy with entries := [(0, held (rd 0x1000 2) 0 0 0 .forwarded), (1, held (rd 0x1000 2) 0 0 1 .ready)] }
      (fun t => (t.entry 1).isSome) := by decide +kernel
theorem test_response_taken :
    gives (.responseTaken 1) { busy with entries := [(1, held (rd 0x1000 2) 0 0 1 .ready)] }
      (fun t => (t.entry 1).isNone && decide (t.linkOut.length = 1)) := by decide +kernel

/-- REFUSED is carried as SLVERR, with a read's zero bytes (R9). -/
theorem test_response_refused :
    gives (.responseTaken 1) { busy with entries := [(1, (held (rd (ap 0 9 256) 2) 0 9 1 .waitingFrames).refuse)] }
      (fun t => decide (t.linkOut.map (fun r => (r.code, r.data)) = [(some (.other .slverr), [0, 0])])) := by decide +kernel

/-- Section 1.10: a limit of 2000 and an entry accepted at 3000; at 5000 it expires. -/
theorem test_hold_expiry :
    gives (.holdExpiry 1) { busy with entries := [(1, held (rd (ap 0 9 256) 2) 0 9 1 .waitingFrames)] }
      (fun t => decide ((t.entry 1).map Entry.response = some (some .refused)) && decide (notices t = [(6, 0)])) := by
  decide +kernel
theorem test_hold_expiry_early :
    gives (.holdExpiry 1) { busy with tsc := 4999, entries := [(1, held (rd (ap 0 9 256) 2) 0 9 1 .waitingFrames)] }
      (fun t => decide ((t.entry 1).map Entry.st = some .waitingFrames)) := by decide +kernel

/-- A write of two bytes of the word at 040h replaces those two bytes (R173). -/
theorem test_command_producer_index_write :
    gives (.commandProducerIndexWrite 2)
      { busy with fetching := false, prodCopy := 0x01020300, entries := [(2, held (wr 0x50041 [0xAA, 0xBB]) 0 0 0 .forwarded)] }
      (fun t => decide (t.prodCopy = 0x01BBAA00) && !t.fetching) := by decide +kernel
theorem test_notice_consumer_index_write :
    gives (.noticeConsumerIndexWrite 2) { busy with entries := [(2, held (wr 0x50044 [5, 0, 0, 0]) 0 0 0 .forwarded)] }
      (fun t => decide (t.consCopy = 5)) := by decide +kernel
theorem test_bad_command : gives (.badCommand (some 17)) busy (fun t => decide (notices t = [(1, 6)])) := by decide +kernel
theorem test_configure_running : gives .configure busy (fun t => decide (notices t = [(1, 3)])) := by decide +kernel
theorem test_configure :
    gives .configure { State.reset with resetPin := false, cpsel := 5, fetching := true }
      (fun t => t.cfgPending && decide (t.portOut = [partRead 0x50000 64])) := by decide +kernel

/-- The 64 bytes of a configuration block (Table 10-4): base C000000000h, all views, interrupt on, hold limit 2000,
1000 bins at 40000000h, a ring of 64 at 30000000h, COMMAND_DONE quiet. -/
def block : List Byte :=
  [0, 0, 0, 0, 0xC0, 0, 0, 0, 0x1F, 1, 0xD0, 7, 0xE8, 3, 0, 0, 0, 0, 0, 0x40, 0, 0, 0, 0, 0, 0, 0, 0x30, 0, 0, 0, 0,
   64, 0, 0, 0, 2, 0] ++ zeros 26

/-- A part that waits for its configuration block. -/
def configuring : State := { State.reset with resetPin := false, cpsel := 5, cfgPending := true }

theorem test_configuration_read_answer :
    gives (.configurationReadAnswer .okay block) configuring (fun t =>
      decide (t.part = .running) && decide (t.binCount = 1000) && decide (t.cfg.map Cfg.holdLimit = some 2000) &&
        decide (t.cfg.map Cfg.apTop = some 3) && !t.irq && decide (notices t = [(1, 0)])) := by decide +kernel
theorem test_configuration_refused :
    gives (.configurationReadAnswer .okay (zeros 64)) configuring (fun t => decide (t.part = .unconfigured) &&
      decide (t.lastResult = .wrongState)) := by decide +kernel
theorem test_pool_reset :
    gives (.poolReset 1) { busy with longs := [{ discard := false, letter := 7, slot := 63 }] } (fun t =>
      decide (t.part = .resetting) && decide (t.letters = []) && decide (t.freeBins = [0, 1, 2, 3]) &&
        decide (notices t = [(1, 2)])) := by decide +kernel

/-- RESETTING, with a POOL_RESET from slot 4 in flight. -/
def resetting (keep : Bool) : State := { on with part := .resetting, poolRun := some { keep := keep, slot := 4 } }

theorem test_pool_reset_end_keep :
    gives .poolResetEnd (resetting true) (fun t => decide (t.part = .running) && decide (t.cfg = some cfgA)) := by decide +kernel
theorem test_pool_reset_end :
    gives .poolResetEnd (resetting false) (fun t => decide (t.part = .unconfigured) && decide (t.cfg = none) &&
      decide (notices t = [(1, 0)])) := by decide +kernel
theorem test_letter_open :
    gives (.letterOpen 9 3 1 1) busy (fun t =>
      decide ((t.letter 9).state = .recording) && decide ((t.letter 9).channel = some 3) && (t.letter 9).urgent &&
        decide ((t.letter 9).tag = 0) && decide ((t.channel 3).state = .attached)) := by decide +kernel
theorem test_letter_open_in_use : gives (.letterOpen 8 2 1 0) busy (fun t => decide (notices t = [(1, 4)])) := by decide +kernel

/-- The fill buffer is padded and finished, and no COMMAND_DONE is posted (R26, R95, R104). -/
theorem test_letter_close :
    gives (.letterClose 7) busy (fun t =>
      decide ((t.channel 2).state = .flushing) && decide ((t.channel 2).buf0 = .finished (List.replicate 128 3)) &&
        decide (notices t = []) && decide (t.longs.map LongCmd.slot = [0])) := by decide +kernel

/-- With an empty finished queue the close completes at once (R26, R105). -/
theorem test_letter_close_at_once :
    gives (.letterClose 7) { busy with channels := [(2, { Channel.initial with state := .attached, letter := some 7 })] }
      (fun t => decide ((t.letter 7).state = .ready) && decide (t.channel 2 = Channel.initial) &&
        decide (t.longs = []) && decide (notices t = [(1, 0)])) := by decide +kernel

/-- Letter 7 at the end of a close from ring slot 9. -/
def closing : State :=
  { busy with channels := [(2, { Channel.initial with state := .flushing, letter := some 7 })]
              longs := [{ discard := false, letter := 7, slot := 9 }] }

theorem test_close_completion :
    gives (.closeCompletion 2) closing (fun t =>
      decide ((t.letter 7).state = .ready) && decide ((t.letter 7).closed = some 5000) &&
        decide ((t.channel 2).state = .idle) && decide (notices t = [(1, 0)])) := by decide +kernel
theorem test_letter_file : gives (.letterFile 9) busy (fun t => decide ((t.letter 9).state = .filed)) := by decide +kernel
theorem test_letter_hold : gives (.letterHold 9 0xFF) busy (fun t => (t.letter 9).hold) := by decide +kernel
theorem test_letter_discard_in_use : gives (.letterDiscard 9) busy (fun t => decide (notices t = [(1, 4)])) := by decide +kernel

/-- Letter 9 without its cursor. -/
def unplayed : State := { busy with cursors := [], letters := [(7, letter7), (9, { letter9 with cursorCount := 0 })] }

theorem test_letter_discard :
    gives (.letterDiscard 9) unplayed (fun t =>
      decide ((t.letter 9).state = .discarding) && !(t.cache.any (CacheEntry.validFor 9 0)) && decide (notices t = [])) := by
  decide +kernel

/-- Letter 9 in the discard queue, with ring slot 6. -/
def discarding : State :=
  { unplayed with letters := [(7, letter7), (9, { letter9 with cursorCount := 0, state := .discarding })]
                  longs := [{ discard := true, letter := 9, slot := 6 }] }

theorem test_discard_walk_step :
    gives .discardWalkStep discarding (fun t =>
      decide ((t.letter 9).segs = [.hush 1]) && decide ((t.bin 0).live = 1) && decide (t.freeSegs = 16382)) := by decide +kernel
theorem test_discard_walk_ends :
    gives .discardWalkStep { discarding with letters := [(7, letter7), (9, { letter9 with segs := [.hush 1], state := .discarding })] }
      (fun t => decide (t.letter 9 = Letter.free) && decide (t.freeCues = 2048) && decide (notices t = [(1, 0)])) := by
  decide +kernel
theorem test_letter_query :
    gives (.letterQuery 9) busy (fun t => decide (notices t = [(2, 0)]) &&
      decide ((t.portOut.map fun r => r.data.drop 12 |>.take 8) |>.head? |>.map (· == [2, 16, 1, 1, 3, 0, 0, 0]) |>.isEqSome true)) := by
  decide +kernel
theorem test_channel_set :
    gives (.channelSet 2 1 0xFFFFFFFF 64 4097) busy (fun t =>
      decide ((t.channel 2).mode = .insert) && decide ((t.channel 2).threshold = 0) && decide ((t.channel 2).hang = 63) &&
        decide ((t.channel 2).cap = 4096) && decide ((t.channel 2).state = .attached)) := by decide +kernel

/-- Table 7-7, event 1: an attach at frame 0; the target is computed from the kept follow mark. -/
theorem test_cursor_attach :
    gives (.cursorAttach 3 9 5 0x7000) busy (fun t =>
      decide ((t.cursor 3).origin = 3 * 524288) && decide ((t.cursor 3).rate = 6144) && decide ((t.cursor 3).checked = 2) &&
        decide ((t.letter 9).cursorCount = 2)) := by decide +kernel
theorem test_cursor_detach :
    gives (.cursorDetach 1) busy (fun t => decide (t.cursor 1 = { Cursor.initial with follow := true }) &&
      decide ((t.letter 9).cursorCount = 0)) := by decide +kernel

/-- Table 7-6, event 7: the step is clamped to the letter's end. -/
theorem test_cursor_step :
    gives (.cursorStep 1 3 384) { busy with cursors := [(1, { cursor1 with lastRead := some 383 })] } (fun t =>
      decide ((t.cursor 1).origin = 3 * 524288) && decide ((t.cursor 1).base = 384) && decide ((t.cursor 1).checked = 2) &&
        decide ((t.cursor 1).target = none)) := by decide +kernel
theorem test_cursor_rate :
    gives (.cursorRate 1 6144 0 10 200) { busy with cursors := [(1, { cursor1 with lastRead := some 127 })] } (fun t =>
      decide ((t.cursor 1).origin = 128 * 4096) && decide ((t.cursor 1).rate = 6144) && decide ((t.cursor 1).tempRate = 2048) &&
        decide ((t.cursor 1).checked = -1)) := by decide +kernel
theorem test_cursor_target :
    gives (.cursorTarget 1 0xFE 2) { busy with cursors := [(1, { cursor1 with checked := 2 })] } (fun t =>
      decide ((t.cursor 1).target = some 4) && !(t.cursor 1).follow) := by decide +kernel
theorem test_cue_add :
    gives (.cueAdd 9 1 0 8 1) busy (fun t =>
      decide ((t.letter 9).cues.map Cue.pos = [1, 2]) && decide ((t.cursor 1).target = some 1) && decide (t.freeCues = 2046)) := by
  decide +kernel
theorem test_cue_remove :
    gives (.cueRemove 9 2 2) busy (fun t =>
      decide ((t.letter 9).cues = []) && decide ((t.cursor 1).target = none) && decide (t.freeCues = 2048)) := by decide +kernel

/-- Channel 2 with one finished speech frame for frame 1 of letter 7. -/
def finished (st : Stage) (place : Option (Nat × Nat)) : Channel :=
  { channel2 with buf0 := .finished (List.replicate 128 3), editPoint := some 2, nextIdx := some 256
                  queue := [{ letter := 7, target := 1, speech := true, mode := .overwrite, cap := none, buffer := 0, stage := st
                              place := place }] }

theorem test_encode_grant :
    gives (.encodeGrant 1) { busy with channels := [(2, finished .awaitingEncode none)] } (fun t =>
      decide (t.engine1 = .coding 2 7 0 (List.replicate 128 3) 16 0 3) && decide ((t.bin 0).fill = 4) &&
        decide ((t.bin 0).inFlight = 1) && decide (t.unpressedPtr = 2)) := by decide +kernel

/-- Section 4.3.4: a flat frame from step index 16 ends at 0, and its record passes its check. -/
theorem test_coding_complete :
    gives (.codingComplete 0) { busy with engine0 := .coding 2 7 0 (List.replicate 128 0) 16 0 3 } (fun t =>
      decide (t.engine0 = .writing 2 7 0 16 0 3 0) &&
        decide (t.portOut.map (fun r => (r.addr, r.len, recordPasses r.data, r.data.take 4)) =
          [(0x400000F0, 80, true, [0x53, 16, 7, 0])])) := by decide +kernel

/-- Channel 2's frame in slot 3 of bin 0 while engine 0 writes it. -/
def writing : State :=
  { busy with channels := [(2, finished .encoding (some (0, 3)))], engine0 := .writing 2 7 0 16 0 3 5
              bins := [(0, { state := .open_ 2, fill := 4, live := 3, inFlight := 1, reads := 0 })] }

theorem test_encode_job_complete :
    gives (.encodeJobComplete 0 .okay) writing (fun t =>
      decide ((t.letter 7).length = 2) && decide ((t.letter 7).segs = [.speech 0 0 1, .speech 0 3 1]) &&
        decide ((t.bin 0).live = 4) && decide ((t.bin 0).inFlight = 0) && decide ((t.channel 2).carried = 5) &&
        decide ((t.channel 2).buf0 = .free)) := by decide +kernel
theorem test_encode_job_fails :
    gives (.encodeJobComplete 0 (.other .slverr)) writing (fun t =>
      decide ((t.letter 7).length = 1) && (t.letter 7).incomplete && decide ((t.channel 2).editPoint = some 1) &&
        decide (notices t = [(8, 4)])) := by decide +kernel

/-- A decode request for frame 1 of letter 9, with the read of entry 6 waiting. -/
def requested : State :=
  { busy with drq := [{ letter := 9, frame := 1, urgent := false, waiters := [{ entry := 6, letter := 9, frame := 1 }] }]
              entries := [(6, { held (rd (ap 1 9 129) 2) 1 9 0 .waitingFrames with letter := some 9, needs := [1] })] }

theorem test_decode_grant :
    gives (.decodeGrant 0) requested (fun t =>
      decide (t.engine0 = .reading 9 1 0 2 0) && decide (t.drq = []) && t.cache.any (CacheEntry.fillingFor 9 1)) := by decide +kernel
theorem test_decode_read_answer :
    gives (.decodeReadAnswer 0 .okay (0x53 :: 80 :: zeros 78)) { busy with engine0 := .reading 9 1 0 2 0 } (fun t =>
      decide (t.engine0 = .decoding 9 1 0 2 0 (.damaged .step))) := by decide +kernel

/-- Engine 0 has decoded frame 1 of letter 9 into cache entry 0, for the read of entry 6. -/
def decoded (r : DecResult) : State :=
  { requested with
    drq := [], engine0 := .decoding 9 1 0 2 0 r
    cache := ((List.range 31).tail.map fun n => { num := n, st := .empty }) ++
      [{ num := 31, st := .valid 9 0 (List.replicate 128 (-2)) },
       { num := 0, st := .filling 9 1 0 2 [{ entry := 6, letter := 9, frame := 1 }] }] }

theorem test_decode_job_complete :
    gives (.decodeJobComplete 0) (decoded (.good (List.replicate 128 700))) (fun t =>
      decide ((t.entry 6).map (fun e => (e.st, e.buf)) = some (.ready, [3, 3])) && decide (t.engine0 = .free)) := by decide +kernel
theorem test_decode_job_damaged :
    gives (.decodeJobComplete 0) (decoded (.damaged .check)) (fun t =>
      (t.letter 9).damaged && decide (notices t = [(9, 3)]) && decide ((t.entry 6).map Entry.buf = some [0, 0])) := by decide +kernel
theorem test_room_waiting_lookup :
    gives .roomWaitingLookup { requested with drq := [], room := [{ entry := 6, letter := 9, frame := 1 }], roomDue := 1 } (fun t =>
      decide (t.room = []) && decide (t.drq.length = 1) && decide (t.roomDue = 0)) := by decide +kernel

/-- A queue of 64 requests, the second for frame 1 of letter 9, and a need for it in the room waiting list. -/
def fullQueue : State :=
  { requested with
    drq := (List.range 64).map fun i => { letter := if i = 1 then 9 else 8, frame := i, urgent := false, waiters := [] }
    room := [{ entry := 6, letter := 9, frame := 1 }, { entry := 6, letter := 9, frame := 2 }], roomDue := 1 }

/-- On a full queue the head need joins a request for its frame, and the next finds no room and stays (R114, R115). -/
theorem test_room_waiting_joins :
    gives .roomWaitingLookup fullQueue (fun t =>
      decide (t.room = [{ entry := 6, letter := 9, frame := 2 }]) && decide (t.drq.length = 64) && decide (t.roomDue = 0) &&
        t.drq.any (fun r => decide (r.letter = 9) && decide (r.waiters.length = 1))) := by decide +kernel

/-- Channel 2 with the write of entry 8 held. -/
def waiting (ch : Channel) (off : Nat) : State :=
  { busy with channels := [(2, { ch with waiting := [8] })], entries := [(8, held (wr (ap 0 7 off) [1, 0, 2, 0]) 0 7 0 .waitingSpace)] }

theorem test_write_taken :
    gives (.writeTaken 2) (waiting channel2 456) (fun t =>
      decide ((t.channel 2).buf0 = .filling (List.replicate 100 3 ++ [1, 2])) && decide ((t.channel 2).waiting = []) &&
        decide ((t.entry 8).map Entry.response = some (some .ok))) := by decide +kernel

/-- An attached channel begins a run at the letter's end, past which the write's frame lies (R91). -/
def attached2 : Channel := { Channel.initial with state := .attached, letter := some 7 }

theorem test_run_begin :
    gives (.runBegin 2) (waiting attached2 2560) (fun t =>
      decide ((t.channel 2).state = .run) && decide ((t.channel 2).editPoint = some 1) &&
        decide ((t.channel 2).nextIdx = some 1282) && decide ((t.channel 2).carried = 16)) := by decide +kernel

/-- A TIME read of the flag bytes of frames 0 and 1 of letter 9, with both slot reads outstanding. -/
def timing : State :=
  { busy with entries := [(6, { held (rd (ap 2 9 3) 5) 2 9 0 .waitingMemory with letter := some 9 })]
              raw := [{ kind := .timeRead 6, letter := 9, frame := 0, bin := 0, slot := 1 },
                      { kind := .timeRead 6, letter := 9, frame := 1, bin := 0, slot := 2 }]
              bins := [(0, { state := .open_ 2, fill := 3, live := 3, inFlight := 0, reads := 1 })] }

/-- Table 8-5: the flag byte of an amplitude of 7000 is 30h, and the bin stays held while a slot read is outstanding. -/
theorem test_time_slot_read_answer :
    gives (.timeSlotReadAnswer 6 1 .okay (zeros 6 ++ [0x58, 0x1B] ++ zeros 72)) timing (fun t =>
      decide ((t.entry 6).map Entry.buf = some [0, 0, 0, 0, 0x30]) && decide ((t.bin 0).reads = 1) &&
        decide ((t.entry 6).map Entry.st = some .waitingMemory)) := by decide +kernel

/-- A RAW read of bytes 78 to 81 of frame 0 of letter 9. -/
def exporting : State :=
  { timing with entries := [(6, { held (rd (ap 3 9 78) 4) 3 9 0 .waitingMemory with letter := some 9 })]
                raw := [{ kind := .exportRead 6, letter := 9, frame := 0, bin := 0, slot := 1 }] }

theorem test_export_read_answer :
    gives (.exportReadAnswer 6 0 .okay (zeros 78 ++ [5, 6])) exporting (fun t =>
      decide ((t.entry 6).map (fun e => (e.st, e.buf)) = some (.ready, [5, 6, 0, 0])) && (t.letter 9).damaged &&
        decide ((t.bin 0).reads = 0) && decide (notices t = [(9, 1)])) := by decide +kernel

/-- An import of frame 1 of letter 7 into slot 3 of bin 0, written. -/
def importing : State :=
  { busy with channels := [(2, { finished .encoding (some (0, 3)) with runKind := some .raw, buf0 := .record (zeros 80) })]
              raw := [{ kind := .importWrite 2, letter := 7, frame := 1, bin := 0, slot := 3 }]
              bins := [(0, { state := .open_ 2, fill := 4, live := 3, inFlight := 1, reads := 0 })] }

/-- Channel 2 in a run without a fill buffer, the writes of entries 8 and 12 held since 3000; the second begins a run. -/
def expiring : State :=
  { busy with
    channels := [(2, { channel2 with buf0 := .free, waiting := [8, 12] })]
    entries := [(8, held (wr (ap 0 7 0) [1, 0]) 0 7 0 .waitingSpace), (12, held (wr (ap 0 7 512) [5, 0]) 0 7 1 .waitingSpace)] }

/-- The expiry of the head lets the next write begin its run at once, and the channel stays in RUN (R84, R90). -/
theorem test_hold_expiry_begins_a_run :
    gives (.holdExpiry 8) expiring (fun t =>
      decide ((t.channel 2).state = .run) && decide ((t.channel 2).waiting = []) && decide ((t.channel 2).buf0 = .filling [5]) &&
        decide ((t.entry 12).map Entry.response = some (some .ok)) && decide (notices t = [(6, 0)])) := by decide +kernel

theorem test_import_write_answer :
    gives (.importWriteAnswer 0 3 .okay) importing (fun t =>
      decide ((t.letter 7).length = 2) && decide (t.raw = []) && decide ((t.bin 0).live = 4)) := by decide +kernel

theorem test_step_counts_time : (match step on with | .next t => t.tsc | _ => 0) = 5001 := by decide +kernel

/-! ### Witnesses: states and operands that meet the hypotheses of the statements -/

/-- The hypotheses of the statements about served transactions. -/
def Accepts (n : Fin 32) (t : Txn) (view num : Nat) (s : State) : Prop :=
  t.wf = true ∧ linkOpen n s ∧ Serves t view num s

/-- A test of `Accepts` under the configuration of these tests. -/
def accepts (n : Fin 32) (t : Txn) (view num : Nat) (s : State) : Bool :=
  t.wf && (!s.resetPin && !s.linkResetPin && decide (s.entry n = none)) && decide (s.cfg = some cfgA) &&
    (decide (spanOf (t.byteAddr (t.len - 1)) = t.span) && decide (t.span / 2 ^ 13 = cfgA.apTop) && cfgA.enabled view &&
      decide (spanView t.span = view) && decide (spanNum t.span = num) && decide (view < 4 ∨ view = 4 ∧ num < 32) &&
      decide (s.part ≠ .resetting) &&
      decide (t.write = true → (view = 0 ∨ view = 1 ∨ view = 3) ∧ t.strobes.contains false = false))

theorem accepts_sound {n : Fin 32} {t : Txn} {view num : Nat} {s : State} (h : accepts n t view num s = true) :
    Accepts n t view num s := by
  simp only [accepts, Bool.and_eq_true, decide_eq_true_eq, Bool.not_eq_true'] at h
  obtain ⟨⟨⟨hw, ⟨hr, hl⟩, he⟩, hc⟩, ⟨⟨⟨⟨⟨⟨h1, h2⟩, h3⟩, h4⟩, h5⟩, h6⟩, h7⟩, h8⟩ := h
  exact ⟨hw, ⟨hr, hl, he⟩, ⟨h1, ⟨cfgA, hc, h2, h3⟩, h4, h5, h6, h7, h8⟩⟩

theorem tablesOk_busy : TablesOk busy := by constructor <;> decide +kernel

theorem witness_StepOnEmptyQueueCountsTime :
    (State.reset.pending = [] ∧ State.reset.resetPin = true) ∧ (on.pending = [] ∧ on.resetPin = false) ∧
      ({ on with tsc := BitVec.allOnes 48 } : State).resetPin = false := by decide +kernel

theorem witness_CommandsCompleteAndKeepTheRest :
    (Instr.linkResetRelease.wf = true ∧ Instr.wf (.badCommand (some 16)) = false) ∧
    (∃ t, exec (.letterFile 9) busy = .next t) ∧ (∀ p, Instr.letterFile 9 ≠ .resetRelease p) ∧
    Instr.letterFile 9 ≠ .powerOnReset ∧ (∀ o, Instr.letterFile 9 ≠ .poolReset o) := by
  refine ⟨by decide, ⟨_, rfl⟩, ?_, by decide, ?_⟩ <;> intro x h <;> cases h

theorem witness_ResetAndPins : State.reset.resetPin = true := rfl

theorem witness_TakenCommandsAdvanceTheRing :
    (takenFromRing (.letterFile 9) { busy with consumer := 63 } ∧ ∃ t, exec (.letterFile 9) { busy with consumer := 63 } = .next t) ∧
    (takenFromRing (.badCommand none) busy ∧ ∃ t, exec (.badCommand none) busy = .next t) ∧
    (takenFromRing (.configurationReadAnswer .okay block) configuring ∧
      ∃ t, exec (.configurationReadAnswer .okay block) configuring = .next t) :=
  ⟨⟨.inl ⟨.inl rfl, rfl, nofun⟩, _, rfl⟩, ⟨.inl ⟨.inr ⟨_, rfl⟩, rfl, nofun⟩, _, rfl⟩,
   ⟨.inr ⟨⟨_, _, rfl⟩, rfl⟩, _, rfl⟩⟩

theorem witness_ReportRecordLayouts :
    (let s : State := { on with consumer := 63, prod := 4095, lastSlot := 63 }
     s.consumer < 64 ∧ s.prod < 4096 ∧ s.freeBins.length ≤ 65536 ∧ s.freeSegs ≤ 16384 ∧ s.freeCues ≤ 2048 ∧ s.lastSlot < 64) ∧
    (let n : Notice := { kind := .commandDone, ringSlot := 63, letter := some 65535, unit := some 255, code := 255, detail := zeros 52 }
     n.detail.length ≤ 52 ∧ n.ringSlot < 64 ∧ n.code < 256 ∧ (∀ l, n.letter = some l → l < 65536) ∧
       ∀ k, n.unit = some k → k < 256) := by
  refine ⟨by decide +kernel, by decide, by decide, by decide, ?_, ?_⟩ <;> intro x h <;> cases h <;> decide

theorem witness_CommandsJudgedByPartState :
    (knownCommand (.letterFile 9) = true ∧ Instr.letterFile 9 ≠ .configure) ∧
    (let s : State := { resetting true with fetching := true }; s.fetching = true ∧ s.part = .resetting) ∧
    (let s : State := { State.reset with fetching := true }; s.fetching = true ∧ s.part = .unconfigured) ∧
    (∀ c : Byte, some (17 : Byte) = some c → c = 0 ∨ 16 < c.toNat) ∧ (∀ c : Byte, some (0 : Byte) = some c → c = 0 ∨ 16 < c.toNat) ∧
    (∀ c : Byte, none = some c → c = 0 ∨ 16 < c.toNat) ∧ (busy.fetching = true ∧ busy.part = .running) := by
  refine ⟨by decide, by decide +kernel, by decide +kernel, ?_, ?_, ?_, by decide +kernel⟩ <;> intro x h <;> cases h <;> decide

theorem witness_ConfigurationChecksAndAnswer :
    configuring.cfgPending = true ∧ configuring.part = .unconfigured ∧
    (answerWf 64 .okay block = true ∧ (Cfg.ofBlock block).ok configuring.cp = true) ∧
    (answerWf 64 (.other .decerr) [] = true ∧ MemCode.other .decerr ≠ .okay) ∧
    (answerWf 64 .okay (zeros 64) = true ∧ (Cfg.ofBlock (zeros 64)).ok configuring.cp = false) := by decide +kernel

theorem witness_PoolResetClears : busy.takes ∧ TablesOk busy ∧ ∃ t, exec (.poolReset 1) busy = .next t :=
  ⟨⟨rfl, rfl⟩, tablesOk_busy, _, rfl⟩

theorem witness_PoolResetEnds :
    (∀ keep, (resetting keep).poolRun = some { keep := keep, slot := 4 } ∧ (resetting keep).part = .resetting ∧
      (resetting keep).engine0 = .free ∧ (resetting keep).engine1 = .free ∧ (resetting keep).raw = [] ∧ (resetting keep).canPost) ∧
    ({ resetting true with engine1 := .reading 1 0 0 0 0 } : State).engine1 ≠ .free := by
  refine ⟨fun keep => ⟨rfl, rfl, rfl, rfl, rfl, ?_⟩, by decide⟩
  exact ⟨by cases keep <;> decide +kernel, rfl, by cases keep <;> decide +kernel⟩

/-- The part at work, with entries of several states. -/
def traffic : State :=
  { busy with entries := [(0, held (rd 0x1000 2) 0 0 0 .forwarded), (1, held (rd (ap 3 9 0) 2) 3 9 1 .waitingMemory),
                          (2, held (rd (ap 0 9 256) 2) 0 9 2 .waitingFrames), (5, held (rd 0x1000 2) 0 0 3 .ready)] }

theorem witness_LinkResetActs :
    TablesOk traffic ∧ traffic.linkResetPin = false ∧ (traffic.channel 2).state = .run ∧ (traffic.channel 3).state ≠ .run ∧
    ((traffic.channel 2).buffer 1).isFilling = false ∧ ((traffic.channel 2).buffer 0).isFilling = true := by
  refine ⟨⟨?_, ?_, ?_, ?_, ?_⟩, ?_⟩ <;> decide +kernel

/-- The hypotheses of the statements about the aperture decoder. -/
def decodes (t : Txn) (view num : Nat) : Bool :=
  t.wf && claimed on.cfg t.span && decide (spanView t.span = view) && decide (spanNum t.span = num)

theorem witness_TransactionsAreClassified :
    ((rd 0xBFFFFFFF00 256).wf = true ∧ (wr 0x1000 [1, 2]).wf = true ∧ linkOpen 4 busy ∧
      (∀ j < 256, claimed busy.cfg (spanOf ((rd 0xBFFFFFFF00 256).byteAddr j)) = false) ∧
      (∀ j < 2, claimed busy.cfg (spanOf ((wr 0x1000 [1, 2]).byteAddr j)) = false)) ∧
    linkOpen 31 on ∧ linkOpen 0 (resetting true) ∧ (resetting true).part = .resetting ∧ on.part ≠ .resetting ∧
    decodes (rd (ap 5 0 0) 1) 5 0 ∧ decodes (rd (ap 7 1023 0) 256) 7 1023 ∧ decodes (rd (ap 4 32 0) 2) 4 32 ∧
    (decodes (rd (ap 4 31 0x1FFFFFF) 2) 4 31 ∧
      spanOf ((rd (ap 4 31 0x1FFFFFF) 2).byteAddr 1) ≠ (rd (ap 4 31 0x1FFFFFF) 2).span) ∧
    (decodes (rd (ap 3 7 0x1FFFFFE) 2) 3 7 ∧
      spanOf ((rd (ap 3 7 0x1FFFFFE) 2).byteAddr 1) = (rd (ap 3 7 0x1FFFFFE) 2).span) ∧
    (decodes (wr (ap 2 7 0) [1]) 2 7 ∧ decodes (wr (ap 4 0 0) [1]) 4 0) ∧
    (let t : Txn := { wr (ap 0 7 0) [1, 2] with strobes := [true, false] }
     decodes t 0 7 ∧ t.write = true ∧ t.strobes.contains false = true) ∧
    (let t := wr 0xBFFFFFFFFC (zeros 8)
     t.wf = true ∧ claimed on.cfg t.span = false ∧ claimed on.cfg (spanOf (t.byteAddr 7)) = true) ∧
    (let s : State := { on with cfg := some { cfgA with cursor := false } }
     let t := rd (ap 4 1023 0x1FFFFFF) 2
     linkOpen 4 s ∧ t.wf = true ∧ claimed s.cfg t.span = false ∧ claimed s.cfg (spanOf (t.byteAddr 1)) = true) :=
  ⟨⟨by decide, by decide, ⟨rfl, rfl, rfl⟩, by decide +kernel, by decide +kernel⟩,
   ⟨rfl, rfl, rfl⟩, ⟨rfl, rfl, rfl⟩, rfl, by decide +kernel, by decide +kernel, by decide +kernel, by decide +kernel,
   by decide +kernel, by decide +kernel, by decide +kernel, by decide +kernel, by decide +kernel,
   ⟨⟨rfl, rfl, rfl⟩, by decide +kernel⟩⟩

theorem witness_RefusedAtHandOver :
    (Accepts 4 (rd (ap 4 31 0) 2) 4 31 busy ∧ (busy.cursor 31).letter = none) ∧
    (Accepts 4 (rd (ap 0 1023 0) 2) 0 1023 busy ∧ (busy.letter 1023).state = .free) ∧
    (Accepts 4 (rd (ap 0 9 0) 2) 0 9 discarding ∧ (discarding.letter 9).state = .discarding) ∧
    (Accepts 4 (wr (ap 1 9 0) [1]) 1 9 busy ∧ (busy.letter 9).state = .ready) ∧
    (Accepts 4 (wr (ap 0 7 456) [1, 0]) 0 7 closing ∧ (closing.letter 7).channel = some 2 ∧
      (closing.channel 2).state = .flushing) ∧
    (Accepts 4 (wr (ap 0 7 455) [1, 0]) 0 7 busy ∧ (wr (ap 0 7 455) [1, 0]).offset % 2 = 1 ∧
      (busy.letter 7).state = .recording ∧ (busy.letter 7).channel = some 2 ∧ (busy.channel 2).state ≠ .flushing) ∧
    (Accepts 4 (wr (ap 0 7 456) [1]) 0 7 busy ∧ (wr (ap 0 7 456) [1]).len % 2 = 1) ∧
    (Accepts 4 (wr (ap 3 7 127) (zeros 128)) 3 7 busy ∧ (wr (ap 3 7 127) (zeros 128)).offset % 128 ≠ 0) ∧
    (Accepts 4 (wr (ap 3 7 128) (zeros 127)) 3 7 busy ∧ (wr (ap 3 7 128) (zeros 127)).len ≠ 128) := by
  refine ⟨⟨accepts_sound ?_, ?_⟩, ⟨accepts_sound ?_, ?_⟩, ⟨accepts_sound ?_, ?_⟩, ⟨accepts_sound ?_, ?_⟩,
    ⟨accepts_sound ?_, ?_⟩, ⟨accepts_sound ?_, ?_⟩, ⟨accepts_sound ?_, ?_⟩, ⟨accepts_sound ?_, ?_⟩,
    ⟨accepts_sound ?_, ?_⟩⟩ <;> decide +kernel

/-- A part with a forwarded write of an index word, straps 5. -/
def indexing (a : Nat) : State :=
  { busy with fetching := false, entries := [(2, held (wr a [5, 0, 0, 0]) 0 0 0 .forwarded)] }

theorem witness_MemoryResponsesAndWatchedWords :
    (traffic.entry 0 = some (held (rd 0x1000 2) 0 0 0 .forwarded) ∧ (held (rd 0x1000 2) 0 0 0 .forwarded).st = .forwarded ∧
      ([1, 2] : List Byte).length = (held (rd 0x1000 2) 0 0 0 .forwarded).len) ∧
    (∀ a ∈ [0x50040, 0x50044], let e := held (wr a [5, 0, 0, 0]) 0 0 0 .forwarded
      (indexing a).entry 2 = some e ∧ e.st = .forwarded ∧ e.write = true ∧ e.len = 4 ∧ e.strobes = [true, true, true, true] ∧
      e.buf = [5, 0, 0, 0] ∧ e.addr.toNat = a) ∧
    (∃ j k, j < 4 ∧ k < 4 ∧ ((0x50040 : Nat) + k) % 2 ^ 48 = on.cp + 0x40 + j) ∧
    (indexing 0x50040).cp = 0x50000 ∧ (indexing 0x50040).fetching = false ∧ (indexing 0x50040).cfgPending = false ∧
    (indexing 0x50040).consumer ≠ 5 % 64 ∧ ({ indexing 0x50040 with consumer := 5 } : State).consumer = 5 ∧
    (indexing 0x50044).prod < (indexing 0x50044).ringSize ∧
      5 % ({ indexing 0x50044 with prod := 5 } : State).ringSize = ({ indexing 0x50044 with prod := 5 } : State).prod := by
  refine ⟨by decide +kernel, by decide +kernel, ⟨0, 0, by decide, by decide, by decide +kernel⟩, by decide +kernel⟩

/-- One READY entry. -/
def oneReady : State := { busy with entries := [(31, held (rd 0x1000 2) 0 0 1 .ready)] }

theorem witness_ResponsesInOrder :
    TablesOk oneReady ∧ oneReady.entry 31 = some (held (rd 0x1000 2) 0 0 1 .ready) ∧ oneReady.resetPin = false ∧
    oneReady.linkResetPin = false ∧
    (∀ m x, oneReady.entry m = some x → x.id = (held (rd 0x1000 2) 0 0 1 .ready).id → x.reserved = false →
      (held (rd 0x1000 2) 0 0 1 .ready).rank ≤ x.rank) ∧
    (traffic.entry 0 = some (held (rd 0x1000 2) 0 0 0 .forwarded) ∧ (held (rd 0x1000 2) 0 0 0 .forwarded).st ≠ .ready) := by
  refine ⟨⟨?_, ?_, ?_, ?_, ?_⟩, ?_, ?_, ?_, ?_, ?_⟩
  case refine_9 =>
    intro m x h _ _
    have h : (if 31 = m then some (held (rd 0x1000 2) 0 0 1 .ready) else none) = some x := h
    split at h <;> cases h
    exact Nat.le_refl _
  all_goals decide +kernel

/-- Channel 2 with the writes of entries 8 and 12 held since 3000. -/
def heldWrites : State :=
  { busy with channels := [(2, { channel2 with waiting := [8, 12] })]
              entries := [(8, held (wr (ap 0 7 0) [1, 0]) 0 7 0 .waitingRun), (12, held (wr (ap 0 7 2) [1, 0]) 0 7 1 .waitingSpace)] }

theorem witness_HoldExpiryRefuses :
    (traffic.entry 2 = some (held (rd (ap 0 9 256) 2) 0 9 2 .waitingFrames) ∧ traffic.holdLimit = 2000 ∧
      (traffic.tsc.toNat + 2 ^ 48 - (held (rd (ap 0 9 256) 2) 0 9 2 .waitingFrames).holdStart.toNat) % 2 ^ 48 = 2000 ∧
      traffic.canPost) ∧
    (heldWrites.entry 12 = some (held (wr (ap 0 7 2) [1, 0]) 0 7 1 .waitingSpace) ∧
      (heldWrites.letter 7).channel = some 2 ∧ (heldWrites.channel 2).waiting.head? ≠ some 12) ∧
    ((waiting channel2 456).channel 2).waiting = [8] ∧
    (traffic.entry 0 = some (held (rd 0x1000 2) 0 0 0 .forwarded)) ∧
    (held (rd (ap 4 31 0) 2) 4 31 0 .waitingFrames).subject = some { view := 4, num := 31 } ∧
    (held (rd (ap 0 1023 0) 2) 0 1023 0 .waitingFrames).subject = some { view := 0, num := 1023 } := by
  refine ⟨⟨?_, ?_, ?_, ?_, ?_, ?_⟩, ?_⟩ <;> decide +kernel

theorem cacheNumbered_busy : cacheNumbered busy :=
  (by decide +kernel : (busy.cache.map (·.num)).Nodup)

theorem serves_busy : (busy.letter 9).serves := .inr (.inl (by decide +kernel))

theorem witness_PcmReadHitsAtOnce :
    Accepts 4 (rd (ap 0 9 0) 256) 0 9 busy ∧ (busy.letter 9).serves ∧ cacheNumbered busy ∧
    (∀ f ∈ pcmFrames 0 0 256, cachedSamples busy 9 f ≠ none) ∧
    Accepts 4 (rd (ap 1 9 127) 1) 1 9 busy ∧ (∀ f ∈ pcmFrames 1 127 1, cachedSamples busy 9 f ≠ none) := by
  refine ⟨accepts_sound ?_, serves_busy, cacheNumbered_busy, ?_, accepts_sound ?_, ?_⟩ <;> decide +kernel

/-- A read of frame 1, and one of frames 0 to 2 of which frame 0 is VALID. -/
theorem witness_PcmReadMissWaits :
    (busy.letter 9).serves ∧ cacheNumbered busy ∧
    (Accepts 4 (rd (ap 0 9 256) 256) 0 9 busy ∧ pcmFrames 0 256 256 = [1] ∧ cachedSamples busy 9 1 = none ∧
      pcmFrames 1 128 128 = [1]) ∧
    (Accepts 4 (rd (ap 1 9 64) 256) 1 9 busy ∧ (rd (ap 1 9 64) 256).offset = 64 ∧ pcmFrames 1 64 256 = [0, 1, 2] ∧
      ∃ f ∈ pcmFrames 1 64 256, cachedSamples busy 9 f = none) ∧
    busy.cache.find? (CacheEntry.validFor 9 0) = some { num := 31, st := .valid 9 0 (List.replicate 128 (-2)) } := by
  refine ⟨serves_busy, cacheNumbered_busy, ⟨accepts_sound ?_, ?_⟩, ⟨accepts_sound ?_, ?_⟩, ?_⟩ <;> decide +kernel

/-- Cursor 6 of Table 7-3. -/
def cursor6 : Cursor :=
  { Cursor.initial with letter := some 1, origin := 5120 * 4096, base := 2000, tempDur := 300, tempRate := 2048, rate := 6144 }

theorem witness_CursorPositionsAndInterpolation :
    (Accepts 4 (rd (ap 4 1 0) 256) 4 1 busy ∧ (busy.cursor 1).letter = some 9 ∧
      ∃ u, exec (.transactionAccept 4 (rd (ap 4 1 0) 256)) busy = .next u) ∧
    (cursor6.base ≤ 2000 ∧ 2299 < cursor6.base + cursor6.tempDur ∧ cursor6.base + cursor6.tempDur ≤ 2300 ∧ 1999 < cursor6.base) ∧
    cursor6.outPos 1000 2001 = .at 5120 2048 false ∧ 2048 ≤ cursor6.rate ∧ 2048 ≤ cursor6.tempRate ∧
    (let c : List (Nat × List Int) := [(0, [-32768, 32767] ++ List.replicate 126 0)]
     copiedSample c 0 = some (-32768) ∧ copiedSample c 1 = some 32767 ∧ (4095 : Nat) ≤ 4095 ∧ 0 < (4095 : Nat)) :=
  ⟨⟨accepts_sound (by decide +kernel), by decide +kernel, _, rfl⟩, by decide, by decide, by decide, by decide, by decide⟩

/-- Cursor 1 with a base above every output of a first read. -/
def ahead : State := { busy with cursors := [(1, { cursor1 with base := 16777215 })] }

/-- Reads of letter 9: its frame 2 carries the target, and the output 384 is the first beyond its end. -/
theorem witness_CursorReadMovesItsCursor :
    (Accepts 4 (rd (ap 4 1 512) 256) 4 1 busy ∧ (busy.cursor 1).letter = some 9) ∧
    ((busy.cursor 1).inside 3 256 383 383 ∧ ∀ p, (busy.cursor 1).inside 3 256 383 p → p ≤ 383) ∧
    ((busy.cursor 1).target = some 2 ∧ (busy.cursor 1).position 383 / 4096 / 128 = 2 ∧ (busy.cursor 1).follow = true ∧
      (busy.letter 9).cues.filter (fun c => decide (c.pos = 2)) = [{ pos := 2, kind := .spelling, tag := 5 }]) ∧
    (Accepts 4 (rd (ap 4 1 768) 2) 4 1 busy ∧ (busy.cursor 1).endMark = false ∧ (busy.cursor 1).beyond 3 384 384 384 ∧
      ∀ p, (busy.cursor 1).beyond 3 384 384 p → 384 ≤ p) ∧
    (¬∃ o, (ahead.cursor 1).inside 3 0 127 o) ∧ busy.canPost ∧ Accepts 4 (rd (ap 4 1 0) 256) 4 1 ahead := by
  refine ⟨⟨accepts_sound ?_, ?_⟩, ⟨⟨?_, ?_, ?_, ?_⟩, fun p h => h.2.1⟩, ⟨?_, ?_, ?_, ?_⟩,
    ⟨accepts_sound ?_, ?_, ⟨?_, ?_, ?_, ?_⟩, fun p h => h.1⟩, ?_, ⟨?_, ?_, ?_⟩, accepts_sound ?_⟩
  case refine_17 =>
    rintro ⟨o, -, h1, h2, -⟩
    have h2 : 16777215 ≤ o := h2
    omega
  all_goals decide +kernel

/-- Outputs 380 to 387 of letter 9: 383 is the last within it and reaches the target, 384 the first beyond it. -/
theorem witness_CursorReadMovesItsCursor_both :
    Accepts 4 (rd (ap 4 1 760) 16) 4 1 busy ∧
    ((busy.cursor 1).inside 3 380 387 383 ∧ ∀ p, (busy.cursor 1).inside 3 380 387 p → p ≤ 383) ∧
    ((busy.cursor 1).beyond 3 380 387 384 ∧ ∀ p, (busy.cursor 1).beyond 3 380 387 p → 384 ≤ p) ∧
    busy.canPost ∧ ({ busy with prod := (busy.prod + 1) % busy.ringSize } : State).canPost ∧
    ∃ u, exec (.transactionAccept 4 (rd (ap 4 1 760) 16)) busy = .next u := by
  have pos : ∀ p, (busy.cursor 1).position p = p * 4096 := by
    intro p
    have h : busy.cursor 1 = cursor1 := by decide +kernel
    simp [h, Cursor.position, cursor1, Cursor.initial]
  refine ⟨accepts_sound ?_, ⟨⟨?_, ?_, ?_, ?_⟩, ?_⟩, ⟨⟨?_, ?_, ?_, ?_⟩, ?_⟩, ⟨?_, ?_, ?_⟩, ⟨?_, ?_, ?_⟩, ⟨_, rfl⟩⟩
  case refine_6 => intro p h; have h := h.2.2.2; rw [pos] at h; omega
  case refine_11 => intro p h; have h := h.2.2.2; rw [pos] at h; omega
  all_goals decide +kernel

/-- Cursor 1 at 1.5 times, so that output 1 has a fraction. -/
def faster : State := { busy with cursors := [(1, { cursor1 with rate := 6144 })] }

/-- Outputs 0 and 1 use frame 0 alone; outputs 126 to 130 use frames 0 and 1. -/
theorem witness_CursorReadHitsAtOnce :
    (Accepts 4 (rd (ap 4 1 0) 4) 4 1 faster ∧ (faster.cursor 1).letter = some 9 ∧ cacheNumbered faster ∧
      (∀ f o, (faster.cursor 1).inside 3 0 1 o →
        (faster.cursor 1).position o / 4096 / 128 = f ∨
          (0 < (faster.cursor 1).position o % 4096 ∧ (faster.cursor 1).position o / 4096 + 1 < 3 * 128 ∧
            ((faster.cursor 1).position o / 4096 + 1) / 128 = f) →
        cachedSamples faster 9 f ≠ none) ∧
      (faster.cursor 1).position 1 % 4096 = 2048) ∧
    (Accepts 4 (rd (ap 4 1 252) 10) 4 1 busy ∧ (busy.cursor 1).letter = some 9 ∧ cacheNumbered busy ∧
      (busy.cursor 1).inside 3 126 130 128 ∧ (busy.cursor 1).position 128 / 4096 / 128 = 1 ∧
      cachedSamples busy 9 1 = none) := by
  refine ⟨⟨accepts_sound (by decide +kernel), by decide +kernel, cacheNumbered_busy, ?_, by decide +kernel⟩,
    accepts_sound (by decide +kernel), by decide +kernel, cacheNumbered_busy, ⟨?_, ?_, ?_, ?_⟩, ?_⟩
  case refine_1 =>
    intro f o h hf
    have h1 : o ≤ 1 := h.2.1
    have h2 : o = 0 ∨ o = 1 := by omega
    have hf0 : f = 0 := by
      rcases h2 with rfl | rfl <;> rcases hf with rfl | ⟨-, -, rfl⟩ <;> decide +kernel
    subst hf0
    decide +kernel
  all_goals decide +kernel

theorem witness_TimeCodes : (131071 : Nat) < 131072 := by decide

theorem witness_SlotViewReadsAreTaken :
    (Accepts 4 (rd (ap 2 9 0) 16) 2 9 busy ∧ (busy.letter 9).serves ∧
      (accessesFor (.timeRead 4) 9 (busy.letter 9) (flagFrames 0 16)).length = 2 ∧
      accessesFor (.timeRead 4) 9 (busy.letter 9) (flagFrames 0 3) = [] ∧ Accepts 4 (rd (ap 2 9 0) 3) 2 9 busy ∧
      (busy.letter 9).lookup 2 = .hush ∧ (busy.letter 9).length ≤ 3) ∧
    (Accepts 4 (rd (ap 3 9 79) 2) 3 9 busy ∧
      (accessesFor (.exportRead 4) 9 (busy.letter 9) (recordFrames 79 2)).length = 1 ∧
      accessesFor (.exportRead 4) 9 (busy.letter 9) (recordFrames 80 48) = [] ∧ Accepts 4 (rd (ap 3 9 80) 48) 3 9 busy) := by
  refine ⟨⟨accepts_sound ?_, .inr (.inl ?_), ?_, ?_, accepts_sound ?_, ?_⟩, accepts_sound ?_, ?_, ?_, accepts_sound ?_⟩ <;>
    decide +kernel

theorem witness_SlotReadsAreAnswered :
    answerWf 80 .okay (zeros 80) = true ∧ answerWf 80 (.other .slverr) [] = true ∧
    (timing.part = .running ∧ timing.canPost ∧
      timing.raw.find? (Access.isFor (.timeRead 6) 1) = some { kind := .timeRead 6, letter := 9, frame := 1, bin := 0, slot := 2 } ∧
      (timing.entry 6).map (fun e => (e.reserved, e.write)) = some (false, false)) ∧
    (exporting.part = .running ∧
      exporting.raw.find? (Access.isFor (.exportRead 6) 0) = some { kind := .exportRead 6, letter := 9, frame := 0, bin := 0, slot := 1 } ∧
      (exporting.entry 6).map (fun e => (e.reserved, e.write)) = some (false, false)) ∧
    testRecord (zeros 80) = some .kind ∧ testRecord (encodeRecord 9 (List.replicate 128 4) 16) = none := by
  refine ⟨?_, ?_, ⟨?_, ⟨?_, ?_, ?_⟩, ?_⟩, ?_⟩ <;> decide +kernel

/-- A read that a link reset reserved, and answers while RESETTING: of a TIME read with another slot read outstanding, and of the last
slot read of an export. -/
theorem witness_SlotReadsAreAnswered_resets :
    ∀ s ∈ [timing, exporting], ∀ r ∈ [false, true], ∀ p ∈ [PartState.running, .resetting],
      let u : State := { s with part := p, entries := s.entries.map fun x => (x.1, { x.2 with reserved := r }) }
      u.part = p ∧ (u.entry 6).map (fun e => (e.reserved, e.write)) = some (r, false) ∧ u.raw = s.raw ∧
        (u.part ≠ .unconfigured ∧ u.overflow = false ∧ u.ringFull = false) := by decide +kernel

/-- Channel 2 attached to letter 7 without a run. -/
def idleRun : State := { busy with channels := [(2, attached2)] }

theorem witness_PcmWritesAreTaken :
    (Accepts 4 (wr (ap 0 7 456) (zeros 54)) 0 7 busy ∧ Accepts 4 (wr (ap 0 7 456) (zeros 56)) 0 7 busy ∧
      Accepts 4 (wr (ap 0 7 456) (zeros 60)) 0 7 busy ∧ (wr (ap 0 7 456) (zeros 54)).handed 0 ∧
      (wr (ap 0 7 456) (zeros 54)).offset = 456 ∧ (busy.letter 7).state = .recording ∧ (busy.letter 7).channel = some 2 ∧
      (busy.channel 2).state = .run ∧ (busy.channel 2).waiting = [] ∧ (busy.channel 2).runKind = some .pcm ∧
      (busy.channel 2).nextIdx = some (456 / stride 0) ∧ (busy.channel 2).editPoint = some 1 ∧
      (busy.channel 2).letter = some 7 ∧ (busy.channel 2).fillBuffer = some 0 ∧
      ((busy.channel 2).fill ++ samples16 (zeros 54)).length = 127 ∧ ((busy.channel 2).fill ++ samples16 (zeros 56)).length = 128 ∧
      ((busy.channel 2).fill ++ samples16 (zeros 60)).length = 130 ∧ (busy.channel 2).buffer 1 = .free ∧
      (busy.channel 2).fill.length < 128 ∧ (busy.channel 2).queue = [] ∧ (hushDecision 0 10 0 3).1 = true ∧
      accepts 4 (wr (ap 1 7 228) (zeros 156)) 1 7 busy = true ∧ (busy.channel 2).nextIdx = some (228 / stride 1) ∧
      ((busy.channel 2).fill ++ samples8 (zeros 156)).length = 256) ∧
    (Accepts 4 (wr (ap 1 7 500) (zeros 127)) 1 7 idleRun ∧ (idleRun.channel 2).state = .attached ∧ (idleRun.channel 2).waiting = [] ∧
      (idleRun.channel 2).runKind = none ∧ (idleRun.channel 2).queue = [] ∧ (idleRun.channel 2).buf0 = .free ∧
      (idleRun.channel 2).buf1 = .free ∧ (samples8 (zeros 127)).length = 127) := by
  refine ⟨⟨accepts_sound ?_, accepts_sound ?_, accepts_sound ?_, .inl ?_, ?_⟩, accepts_sound ?_, ?_⟩ <;> decide +kernel

/-- A whole record of one speech frame, as a RAW unit. -/
def record : List Byte := encodeRecord 3 (List.replicate 128 0) 16 ++ zeros 48

/-- A finished frame of channel 2 behind which writes wait. -/
def queued7 (target : Nat) (st : Stage) (buffer : Nat) (place : Option (Nat × Nat)) : FFrame :=
  { letter := 7, target := target, speech := true, mode := .overwrite, cap := none, buffer := buffer, stage := st, place := place }

/-- Channel 2 with one frame in its queue and the given run and first buffer. -/
def tight (kind : Option RunKind) (b : Buf) : State :=
  { busy with channels := [(2, { channel2 with
      state := if kind = none then .attached else .run, runKind := kind, nextIdx := kind.map fun _ => 228, editPoint := some 2
      buf0 := b, buf1 := .finished (List.replicate 128 3), queue := [queued7 1 .encoding 1 none] })] }

/-- Writes held behind others, without room, and at the beginning of a run; and one too large (R88 to R90). -/
theorem witness_PcmWritesAreTaken_held :
    (Accepts 4 (wr (ap 0 7 456) [1, 0]) 0 7 heldWrites ∧ (wr (ap 0 7 456) [1, 0]).handed 0 ∧
      (heldWrites.letter 7).channel = some 2 ∧ (heldWrites.channel 2).state ≠ .flushing ∧ (heldWrites.channel 2).waiting ≠ []) ∧
    (Accepts 4 (wr (ap 3 7 (128 * 228)) record) 3 7 (tight (some .raw) (.record (zeros 80))) ∧
      (wr (ap 3 7 (128 * 228)) record).handed 3 ∧ (let ch := (tight (some .raw) (.record (zeros 80))).channel 2
        ch.runKind = some .raw ∧ ch.nextIdx = some 228 ∧ ch.freeBuffer = none)) ∧
    (let s := tight (some .pcm) (.filling (List.replicate 100 3))
     Accepts 4 (wr (ap 0 7 456) (zeros 58)) 0 7 s ∧ (wr (ap 0 7 456) (zeros 58)).handed 0 ∧ (s.channel 2).waiting = [] ∧
       (s.channel 2).freeSpace = 28 ∧ (s.channel 2).fill.length = 100 ∧ 28 < 29 ∧ 29 ≤ 256 - 100) ∧
    (Accepts 4 (wr (ap 1 7 228) (zeros 157)) 1 7 busy ∧ (wr (ap 1 7 228) (zeros 157)).handed 1 ∧ TablesOk busy ∧
      256 - (busy.channel 2).fill.length < 157 ∧ (busy.channel 2).nextIdx = some 228) ∧
    (let s := tight none .free
     Accepts 4 (wr (ap 0 7 0) [1, 0]) 0 7 s ∧ (s.channel 2).runKind = none ∧ (s.channel 2).queue ≠ [] ∧ (s.channel 2).waiting = []) ∧
    (let s := tight (some .pcm) .free
     Accepts 4 (wr (ap 0 7 0) [1, 0]) 0 7 s ∧ (s.channel 2).runKind ≠ none ∧ (s.channel 2).fillBuffer = none ∧
       (s.channel 2).nextIdx ≠ some 0) ∧
    (Accepts 4 (wr (ap 0 7 0) [1, 0]) 0 7 busy ∧ (wr (ap 0 7 0) [1, 0]).handed 0 ∧ (busy.channel 2).fillBuffer = some 0 ∧
      (busy.channel 2).editPoint = some 1 ∧ (busy.channel 2).letter = some 7 ∧ (busy.channel 2).queue = [] ∧
      (hushDecision 0 10 0 3).1 = true) := by
  refine ⟨⟨accepts_sound ?_, .inl ?_, ?_⟩, ⟨accepts_sound ?_, .inr (.inr ?_), ?_⟩, ⟨accepts_sound ?_, .inl ?_, ?_⟩,
    ⟨accepts_sound ?_, .inr (.inl ?_), tablesOk_busy, ?_⟩, ⟨accepts_sound ?_, ?_⟩, ⟨accepts_sound ?_, ?_⟩,
    ⟨accepts_sound ?_, .inl ?_, ?_⟩⟩ <;> decide +kernel

theorem witness_HeldWritesAreTaken :
    (let s := waiting channel2 456
     let e := held (wr (ap 0 7 456) [1, 0, 2, 0]) 0 7 0 .waitingSpace
     (s.channel 2).waiting = [8] ∧ s.entry 8 = some e ∧ (s.channel 2).runKind = some e.runKind ∧
       (s.channel 2).nextIdx = some e.firstUnit ∧ tooLarge (s.channel 2) e = false ∧ fits (s.channel 2) e = true ∧
       e.view = 0 ∧ e.buf.length = e.len ∧ e.count = 2 ∧ e.len % 2 = 0 ∧ (s.channel 2).fillBuffer = some 0 ∧
       (s.channel 2).fill.length = 100 ∧ (s.channel 2).editPoint = some 1 ∧ (s.channel 2).queue = []) ∧
    (let s := waiting attached2 2560
     (s.channel 2).waiting = [8] ∧ (s.channel 2).runKind = none ∧ (s.channel 2).queue = [] ∧ (s.channel 2).buf0 = .free ∧
       (s.channel 2).buf1 = .free) ∧
    (heldWrites.channel 2).waiting = [8, 12] ∧ 8 ∉ [12] ∧
    (let e := held (wr (ap 0 7 0) [1, 0]) 0 7 0 .waitingSpace
     let x := held (wr (ap 0 7 512) [5, 0]) 0 7 1 .waitingSpace
     expiring.entry 8 = some e ∧ e.write = true ∧ e.st = .waitingSpace ∧ (expiring.letter e.num).channel = some 2 ∧
       expiring.holdLimit = 2000 ∧ (expiring.tsc.toNat + 2 ^ 48 - e.holdStart.toNat) % 2 ^ 48 = 2000 ∧
       (expiring.channel 2).waiting = [8, 12] ∧ expiring.entry 12 = some x ∧ x.view = 0 ∧ x.buf.length = x.len ∧
       x.count = 1 ∧ x.len % 2 = 0 ∧ (expiring.channel 2).letter = some 7 ∧ (expiring.channel 2).nextIdx ≠ some x.firstUnit ∧ (expiring.channel 2).queue = [] ∧
       (expiring.channel 2).buf0 = .free ∧ (expiring.channel 2).buf1 = .free) ∧ expiring.canPost := by
  refine ⟨?_, ?_, ?_, ?_, ?_, ⟨?_, ?_, ?_⟩⟩ <;> decide +kernel

/-- Channel 2 in a RAW run at frame 1 of letter 7. -/
def rawRun (q : List FFrame) : State :=
  { busy with channels := [(2, { channel2 with runKind := some .raw, nextIdx := some 1, buf0 := .free, queue := q })] }

theorem witness_ImportsAreTakenAndAnswered :
    (Accepts 4 (wr (ap 3 7 128) record) 3 7 (rawRun []) ∧ (wr (ap 3 7 128) record).offset = 128 ∧ record.length = 128 ∧
      (wr (ap 3 7 128) record).offset % 128 = 0 ∧ (wr (ap 3 7 128) record).len = 128 ∧ testImport (bytesAt record 0 80) = none ∧
      testImport (bytesAt (0x48 :: zeros 127) 0 80) = none ∧ ((rawRun []).channel 2).editPoint = some 1 ∧
      ((rawRun []).channel 2).nextIdx = some 1 ∧ ((rawRun []).channel 2).freeBuffer = some 0 ∧
      testRecord (bytesAt record 0 80) = none ∧ (rawRun []).nextSlot 2 = some (0, 3) ∧
      ({ rawRun [] with bins := [], freeBins := [] } : State).nextSlot 2 = none) ∧
    (Accepts 4 (wr (ap 3 7 128) (0x48 :: zeros 127)) 3 7 (rawRun [frame5 1 .overwrite (some 9)]) ∧
      recordKind (bytesAt (0x48 :: zeros 127) 0 80) = 0x48 ∧
      ({ frame5 1 .overwrite (some 9) with stage := .encoding } : FFrame).stage ≠ .ready) ∧
    (Accepts 4 (wr (ap 3 7 128) (0x48 :: zeros 127)) 3 7 (rawRun []) ∧ ((rawRun []).channel 2).queue = [] ∧
      (let f := { frame5 1 .overwrite none with letter := 7 }
       placeLimit f ((rawRun []).letter 7) (rawRun []).freeSegs = none ∧ placeLimit f ((rawRun []).letter 7) 0 = some .segments)) ∧
    (Accepts 4 (wr (ap 3 7 128) (zeros 128)) 3 7 (rawRun []) ∧ testRecord (bytesAt (zeros 128) 0 80) = some .kind) ∧
    (let a : Access := { kind := .importWrite 2, letter := 7, frame := 1, bin := 0, slot := 3 }
     importing.raw.find? (Access.isImport 0 3) = some a ∧ (importing.channel 2).queue.length = 1 ∧
       ((importing.channel 2).queue.map FFrame.place) = [some (0, 3)] ∧ importing.part ≠ .resetting ∧
       ((importing.channel 2).queue.map FFrame.cap) = [none] ∧ (importing.letter 7).state = .recording ∧
       ((importing.channel 2).queue.map fun f => placeLimit f (importing.letter 7) importing.freeSegs) = [none]) := by
  refine ⟨⟨accepts_sound ?_, ?_⟩, ⟨accepts_sound ?_, ?_⟩, ⟨accepts_sound ?_, ?_⟩, ⟨accepts_sound ?_, ?_⟩, ?_⟩ <;> decide +kernel

/-- An import of the second of two queued frames, in slot 3 of bin 0, and of the first. -/
def importing2 (second : Bool) : State :=
  { importing with channels := [(2, { channel2 with
      runKind := some .raw, nextIdx := some 3, editPoint := some 3, buf0 := .record (zeros 80), buf1 := .record (zeros 80)
      queue := [queued7 1 .encoding 0 (some (0, if second then 2 else 3)), queued7 2 .encoding 1 (some (0, if second then 3 else 2))] })] }

/-- Answers with a frame ahead, with one behind, and at a limit of placement. -/
theorem witness_ImportsAreTakenAndAnswered_queue :
    (let s := importing2 true
     let f := queued7 2 .encoding 1 (some (0, 3))
     (s.channel 2).queue[1]? = some f ∧ (∀ g ∈ (s.channel 2).queue.take 1, g.place ≠ some (0, 3)) ∧ 0 < 1 ∧
       (∀ g, (s.channel 2).queue.head? = some g → g.stage ≠ .ready) ∧
       (s.channel 2).queue = [queued7 1 .encoding 0 (some (0, 2))] ++ f :: []) ∧
    (let s : State := { importing2 false with freeSegs := 0 }
     let f := queued7 1 .encoding 0 (some (0, 3))
     s.raw.find? (Access.isImport 0 3) = some { kind := .importWrite 2, letter := 7, frame := 1, bin := 0, slot := 3 } ∧
       (s.channel 2).queue = f :: [queued7 2 .encoding 1 (some (0, 2))] ∧ headWaits [queued7 2 .encoding 1 (some (0, 2))] ∧
       f.cap = none ∧ (s.letter 7).channel = some 2 ∧ placeLimit f (s.letter 7) s.freeSegs = some .segments) ∧
    (let s : State := { importing with part := .resetting, channels := [] }
     s.raw.find? (Access.isImport 0 3) = some { kind := .importWrite 2, letter := 7, frame := 1, bin := 0, slot := 3 } ∧
       s.part = .resetting ∧ (s.channel 2).queue = []) := by
  refine ⟨⟨?_, ?_, ?_, ?_, ?_⟩, ⟨?_, ?_, ?_, ?_⟩, ?_⟩
  case refine_4 => intro g h; cases h; decide
  case refine_8 => intro g h; cases h; decide
  all_goals decide +kernel

theorem witness_PlacementEditsTheFrames :
    (∀ g ∈ letter5.segs, 0 < g.frames) ∧ (letter5.segs.map Seg.frames).sum = letter5.length ∧
    (∀ f ∈ [frame5 12 .overwrite none, frame5 2 .insert (some 16), frame5 0 .overwrite (some 16), frame5 5 .overwrite (some 16)],
      f.target ≤ letter5.length ∧ (f.speech = true → f.place ≠ none)) ∧
    letter5.lookup 5 = .hush ∧ letter5.lookup 0 = .speech 7 10 ∧ 0 < letter5.speech ∧ 0 < letter5.hush := by decide

/-- A part whose channel 2 has a READY frame for letter 7. -/
def placing (m : Mode) (target : Nat) (place : Option (Nat × Nat)) : State :=
  { writing with channels := [(2, { finished .ready place with
      queue := [{ letter := 7, target := target, speech := place.isSome, mode := m, cap := none, buffer := 0, stage := .ready
                  place := place }] })] }

theorem witness_PlacementIsOneChange :
    ∀ s ∈ [placing .overwrite 1 (some (0, 3)), placing .insert 0 (some (0, 3)), placing .overwrite 0 (some (1, 0)),
           placing .overwrite 0 (some (0, 3)), placing .overwrite 0 none],
      (s.channel 2).queue.length = 1 ∧ Tab.wf Cursor.initial s.cursors = true ∧
      ((s.channel 2).queue.map fun f => placeLimit f (s.letter f.letter) s.freeSegs) = [none] ∧
      (s.letter 7).lookup 0 = .speech 0 0 := by decide +kernel

/-- Both limits; a cost for every case of an edit: between segments, within one, over a segment of one frame, and over a
first, a last and a middle frame; a frame at the head dropped for want of entries, and one whose letter is gone. -/
theorem witness_PlacementLimitsAndDrops :
    placeLimit (frame5 131072 .overwrite none) { letter5 with length := 131072 } 5 = some .length ∧
    placeLimit (frame5 2 .insert (some 16)) letter5 1 = some .segments ∧ placeLimit (frame5 2 .insert (some 16)) letter5 2 = none ∧
    (let segs := letter5.segs
     (∀ g ∈ segs, 0 < g.frames) ∧ (segs.map Seg.frames).sum = letter5.length ∧
       segs = [.speech 7 10 4] ++ [.hush 6, .speech 7 14 2] ∧ (([.speech 7 10 4] : List Seg).map Seg.frames).sum = (frame5 4 .insert none).target ∧
       segs = [] ++ .speech 7 10 4 :: [.hush 6, .speech 7 14 2] ∧ (frame5 2 .insert none).target - 0 < Seg.frames (.speech 7 10 4) ∧
       (∀ k ∈ [4, 5, 9], (([.speech 7 10 4] : List Seg).map Seg.frames).sum ≤ (frame5 k .overwrite (some 16)).target ∧
         (frame5 k .overwrite (some 16)).target - 4 < Seg.frames (.hush 6))) ∧
    (letter7.segs = [] ++ .speech 0 0 1 :: [] ∧ Seg.frames (.speech 0 0 1) = 1 ∧ (frame5 0 .overwrite none).target - 0 < 1) ∧
    (let s : State := { placing .overwrite 1 (some (0, 3)) with freeSegs := 0 }
     let f := queued7 1 .ready 0 (some (0, 3))
     (s.channel 2).queue = f :: [] ∧ (s.letter 7).state = .recording ∧ (s.letter 7).channel = some 2 ∧
       placeLimit f (s.letter 7) s.freeSegs = some .segments ∧ (s.channel 2).dropMark = false) ∧ busy.canPost ∧
    (let s : State := { placing .overwrite 1 (some (0, 3)) with letters := [(9, letter9)] }
     (s.channel 2).queue = queued7 1 .ready 0 (some (0, 3)) :: [] ∧ (s.letter 7).state ≠ .recording) := by
  refine ⟨?_, ?_, ?_, ?_, ?_, ?_, ⟨?_, ?_, ?_⟩, ?_⟩ <;> decide +kernel

/-- Letter 7 ends in the given segments, and channel 2 finishes a HUSH frame with the next 28 samples. -/
def hushy (cap : Nat) (segs : List Seg) (len free : Nat) : State :=
  { busy with freeSegs := free, letters := [(7, { letter7 with segs := segs, length := len, hush := len - 1 }), (9, letter9)]
              channels := [(2, { channel2 with threshold := 50, editPoint := some len, cap := cap })] }

/-- The pad of `hushy` is a HUSH frame on an empty queue: discarded by the cap, dropped for SEGMENTS, or placed. -/
theorem witness_ChannelSetOutcome_LetterCloseAndCompletion_hushPad :
    (∀ s ∈ [hushy 2 [.speech 0 0 1, .hush 2] 3 5, hushy 0 [.speech 0 0 1] 1 0, hushy 3 [.speech 0 0 1, .hush 2] 3 5],
      s.transitional 7 = false ∧ s.longs = [] ∧ (s.letter 7).state = .recording ∧ (s.letter 7).channel = some 2 ∧
        (s.channel 2).state = .run ∧ (s.channel 2).mode ≠ .insert ∧ (s.channel 2).waiting = [] ∧ (s.channel 2).runKind ≠ none ∧
        (s.channel 2).fillBuffer = some 0 ∧ (s.channel 2).editPoint = some (s.letter 7).length ∧ (s.channel 2).letter = some 7 ∧
        (s.channel 2).queue = [] ∧ (s.channel 2).dropMark = false ∧
        (let ch := s.channel 2
         (hushDecision ch.threshold ch.hang ch.hangCount (meanAmplitude (padSamples ch.fill))).1 = false)) ∧
    (let s := hushy 2 [.speech 0 0 1, .hush 2] 3 5
     s.takes ∧ s.canPost ∧ capDiscards ((s.channel 2).finishedFrame 7 3 0 false) (s.letter 7) = true) ∧
    (let s := hushy 0 [.speech 0 0 1] 1 0
     let f := (s.channel 2).finishedFrame 7 1 0 false
     s.takes ∧ s.canPost ∧ ({ s with prod := (s.prod + 1) % s.ringSize } : State).canPost ∧
       capDiscards f (s.letter 7) = false ∧ placeLimit f (s.letter 7) s.freeSegs = some .segments) ∧
    (let s := hushy 3 [.speech 0 0 1, .hush 2] 3 5
     let f := (s.channel 2).finishedFrame 7 3 0 false
     s.takes ∧ s.canPost ∧ capDiscards f (s.letter 7) = false ∧ placeLimit f (s.letter 7) s.freeSegs = none) := by
  refine ⟨?_, ⟨⟨?_, ?_⟩, ⟨?_, ?_, ?_⟩, ?_⟩, ⟨⟨?_, ?_⟩, ⟨?_, ?_, ?_⟩, ⟨?_, ?_, ?_⟩, ?_⟩, ⟨⟨?_, ?_⟩, ⟨?_, ?_, ?_⟩, ?_⟩⟩ <;> decide +kernel

/-- A run ends for a write by a HUSH pad in each outcome, and with nothing to pad. -/
theorem givesWay_witness :
    ((hushy 2 [.speech 0 0 1, .hush 2] 3 5).channel 2).givesWay ∧ ((hushy 0 [.speech 0 0 1] 1 0).channel 2).givesWay ∧
    ((hushy 3 [.speech 0 0 1, .hush 2] 3 5).channel 2).givesWay ∧ (idleRun.channel 2).givesWay ∧ ((rawRun []).channel 2).givesWay ∧
    (expiring.channel 2).givesWay := by
  refine ⟨⟨?_, .inr ⟨0, 3, ?_⟩⟩, ⟨?_, .inr ⟨0, 1, ?_⟩⟩, ⟨?_, .inr ⟨0, 3, ?_⟩⟩, ⟨?_, .inl ?_⟩, ⟨?_, .inl ?_⟩, ⟨?_, .inl ?_⟩⟩ <;>
    decide +kernel

/-- Run-starting writes of 128 and of 256 samples and of a record, at hand-over, and a record held. -/
theorem witness_PcmWritesAreTaken_ImportsAreTakenAndAnswered_begins :
    (∀ s ∈ [hushy 2 [.speech 0 0 1, .hush 2] 3 5, idleRun, rawRun []],
      accepts 4 (wr (ap 0 7 0) (zeros 256)) 0 7 s = true ∧ accepts 4 (wr (ap 1 7 0) (zeros 256)) 1 7 s = true ∧
        accepts 4 (wr (ap 3 7 (128 * 300)) record) 3 7 s = true ∧ (s.letter 7).state = .recording ∧ (s.letter 7).channel = some 2 ∧
        (s.channel 2).letter = some 7 ∧ (s.channel 2).state ≠ .flushing ∧ (s.channel 2).waiting = [] ∧
        (s.channel 2).nextIdx ≠ some 0 ∧ (s.channel 2).nextIdx ≠ some 300) ∧
    (wr (ap 0 7 0) (zeros 256)).handed 0 ∧ (wr (ap 1 7 0) (zeros 256)).handed 1 ∧ (wr (ap 3 7 (128 * 300)) record).handed 3 ∧
    (samples16 (zeros 256)).length = 128 ∧ (samples8 (zeros 256)).length = 256 ∧
    (let x := held (wr (ap 3 7 128) record) 3 7 0 .waitingSpace
     let s : State := { busy with channels := [(2, { attached2 with waiting := [8] })], entries := [(8, x)] }
     (s.channel 2).waiting = [8] ∧ s.entry 8 = some x ∧ x.view = 3 ∧ x.buf.length = x.len ∧ x.count = 1 ∧
       (s.channel 2).runKind = none ∧ (s.channel 2).letter = some 7 ∧ (s.channel 2).queue = [] ∧ (s.channel 2).buf0 = .free ∧
       (s.channel 2).buf1 = .free) := by
  refine ⟨?_, .inl ?_, .inr (.inl ?_), .inr (.inr ?_), ?_⟩ <;> decide +kernel

/-- A HUSH frame on an empty queue: discarded by the cap, dropped for SEGMENTS, and placed. -/
theorem witness_HushDecisionAndCap :
    (∀ s ∈ [hushy 2 [.speech 0 0 1, .hush 2] 3 5, hushy 0 [.speech 0 0 1] 1 0, hushy 3 [.speech 0 0 1, .hush 2] 3 5],
      accepts 4 (wr (ap 0 7 456) (zeros 56)) 0 7 s = true ∧ (s.letter 7).state = .recording ∧ (s.letter 7).channel = some 2 ∧
        (s.channel 2).state = .run ∧ (s.channel 2).waiting = [] ∧ (s.channel 2).runKind = some .pcm ∧
        (s.channel 2).nextIdx = some (456 / stride 0) ∧ (s.channel 2).editPoint = some (s.letter 7).length ∧
        (s.channel 2).letter = some 7 ∧ (s.channel 2).queue = [] ∧ (s.channel 2).fillBuffer = some 0 ∧
        (let full := (s.channel 2).fill ++ samples16 (zeros 56)
         full.length = 128 ∧ (hushDecision 50 10 0 (meanAmplitude full)).1 = false)) ∧
    (wr (ap 0 7 456) (zeros 56)).handed 0 ∧
    (let s := hushy 2 [.speech 0 0 1, .hush 2] 3 5
     capDiscards ((s.channel 2).finishedFrame 7 3 0 false) (s.letter 7) = true ∧
       (s.letter 7).segs = [.speech 0 0 1] ++ .hush 2 :: [] ∧ (∀ g ∈ (s.letter 7).segs, 0 < g.frames) ∧
       ((s.letter 7).segs.map Seg.frames).sum = (s.letter 7).length) ∧
    (let s := hushy 0 [.speech 0 0 1] 1 0
     let f := (s.channel 2).finishedFrame 7 1 0 false
     capDiscards f (s.letter 7) = false ∧ placeLimit f (s.letter 7) s.freeSegs = some .segments) ∧
    (let s := hushy 3 [.speech 0 0 1, .hush 2] 3 5
     let f := (s.channel 2).finishedFrame 7 3 0 false
     capDiscards f (s.letter 7) = false ∧ placeLimit f (s.letter 7) s.freeSegs = none) := by
  refine ⟨?_, .inl ?_, ?_⟩ <;> decide +kernel

theorem witness_LetterOpenOutcome :
    busy.takes ∧ busy.transitional 9 = false ∧ (busy.letter 9).state = .ready ∧ (busy.letter 1023).state = .free ∧
    (busy.letter 7).state = .recording ∧ (busy.channel 31).state = .idle ∧ (busy.channel 2).state ≠ .idle ∧
    busy.transitional 7 = false ∧ closing.transitional 7 = true ∧ closing.takes := by
  refine ⟨⟨?_, ?_⟩, ?_, ?_, ?_, ?_, ?_, ?_, ?_, ?_, ⟨?_, ?_⟩⟩ <;> decide +kernel

theorem witness_LetterFileHoldAndQuery :
    busy.takes ∧ busy.transitional 9 = false ∧ (busy.letter 9).state = .ready ∧ (busy.letter 9).closed ≠ none ∧
    (busy.letter 1023).state = .free ∧ (busy.letter 1023).closed = none ∧ busy.canPost ∧ closing.transitional 7 = true := by
  refine ⟨⟨?_, ?_⟩, ?_, ?_, ?_, ?_, ?_, ⟨?_, ?_, ?_⟩, ?_⟩ <;> decide +kernel

theorem witness_LetterCloseAndCompletion :
    (busy.takes ∧ busy.transitional 7 = false ∧ (busy.letter 7).state = .recording ∧ (busy.letter 7).channel = some 2 ∧
      (∀ y ∈ busy.longs, y.discard = true ∨ y.letter ≠ 7) ∧
      (busy.channel 2).waiting = [] ∧ (busy.channel 2).runKind = some .pcm ∧ (busy.channel 2).fillBuffer = some 0 ∧
      (busy.channel 2).editPoint = some 1 ∧ (busy.channel 2).threshold = 0 ∧ (busy.channel 2).queue = [] ∧
      (idleRun.channel 2).runKind = none ∧ (idleRun.channel 2).queue = [] ∧
      ((tight (some .pcm) .free).channel 2).fillBuffer = none ∧ ((tight (some .pcm) .free).channel 2).queue ≠ [] ∧
      (heldWrites.channel 2).waiting.Nodup ∧ ∃ t, exec (.letterClose 7) heldWrites = .next t) ∧
    (let s : State := { closing with longs := { discard := true, letter := 9, slot := 6 } :: closing.longs }
     (s.channel 2).letter = some 7 ∧ (s.channel 2).state = .flushing ∧ (s.channel 2).queue = [] ∧
       s.longs = [{ discard := true, letter := 9, slot := 6 }] ++ { discard := false, letter := 7, slot := 9 } :: [] ∧
       (∀ x ∈ ([{ discard := true, letter := 9, slot := 6 }] ++ [] : List LongCmd), x.discard = true ∨ x.letter ≠ 7) ∧
       s.canPost) := by
  refine ⟨⟨⟨?_, ?_⟩, ?_, ?_, ?_, ?_, ?_, ?_, ?_, ?_, ?_, ?_, ?_, ?_, ?_, ?_, ?_, ⟨_, rfl⟩⟩, ?_, ?_, ?_, ?_, ?_, ⟨?_, ?_, ?_⟩⟩ <;>
    decide +kernel

/-- Letters 9 and 5 in the discard queue behind a close, letter 9 with the given segments left. -/
def walking (segs : List Seg) : State :=
  { busy with cursors := []
              letters := [(5, { letter9 with state := .discarding, cursorCount := 0 }), (7, letter7),
                          (9, { letter9 with cursorCount := 0, segs := segs, state := .discarding })]
              longs := [{ discard := false, letter := 7, slot := 3 }, { discard := true, letter := 9, slot := 6 },
                        { discard := true, letter := 5, slot := 8 }] }

theorem witness_LetterDiscardAndWalk :
    (unplayed.takes ∧ unplayed.transitional 9 = false ∧ (unplayed.letter 9).state = .ready ∧ (unplayed.letter 9).hold = false ∧
      (unplayed.letter 9).cursorCount = 0 ∧ (unplayed.letter 9).segs ≠ [] ∧ unplayed.discardQueue = [] ∧ TablesOk unplayed ∧
      0 < (busy.letter 9).cursorCount) ∧
    (let s : State := { unplayed with letters := [(7, letter7), (9, { letter9 with cursorCount := 0, segs := [], cues := [] })] }
     s.transitional 9 = false ∧ (s.letter 9).state = .ready ∧ (s.letter 9).segs = [] ∧ (s.letter 9).cues = [] ∧
       s.discardQueue = [] ∧ Tab.wf Letter.free s.letters = true) ∧
    (∀ segs ∈ [[], [.hush 1], [.speech 0 1 2, .hush 1]], let s := walking segs
     s.longs = [{ discard := false, letter := 7, slot := 3 }] ++ { discard := true, letter := 9, slot := 6 } ::
         [{ discard := true, letter := 5, slot := 8 }] ∧
       (s.letter 9).segs = segs ∧ (s.letter 9).cues ≠ [] ∧ (s.letter 5).segs ≠ []) ∧ busy.canPost := by
  refine ⟨⟨⟨?_, ?_⟩, ?_, ?_, ?_, ?_, ?_, ?_, ⟨?_, ?_, ?_, ?_, ?_⟩, ?_⟩, ?_, ?_, ⟨?_, ?_, ?_⟩⟩ <;> decide +kernel

theorem witness_ChannelSetOutcome :
    busy.takes ∧ (busy.channel 31).state ≠ .run ∧ (busy.channel 2).state = .run ∧ (busy.channel 2).mode ≠ .insert ∧
    (busy.channel 2).fillBuffer = some 0 ∧ (busy.channel 2).editPoint = some 1 ∧ (busy.channel 2).letter = some 7 ∧
    (busy.channel 2).threshold = 0 ∧ (busy.channel 2).queue = [] ∧ ((rawRun []).channel 2).fillBuffer = none ∧
    (1 : Byte).toNat = 1 ∧ (0 : Byte).toNat = 0 ∧ (List.replicate 100 (3 : Int)).length ≤ 128 ∧
    (let s := waiting { channel2 with buf0 := .free } 512
     let x := held (wr (ap 0 7 512) [1, 0, 2, 0]) 0 7 0 .waitingSpace
     (s.channel 2).state = .run ∧ (s.channel 2).mode = .overwrite ∧ (s.channel 2).waiting = [8] ∧ s.entry 8 = some x ∧ x.view = 0 ∧
       x.buf.length = x.len ∧ x.count = 2 ∧ x.len % 2 = 0 ∧ (s.channel 2).runKind ≠ none ∧ (s.channel 2).letter = some 7 ∧
       (s.letter 7).state = .recording ∧ (s.letter 7).channel = some 2 ∧ (s.channel 2).queue = [] ∧ (s.channel 2).buf0 = .free ∧
       (s.channel 2).buf1 = .free) := by
  refine ⟨⟨?_, ?_⟩, ?_⟩ <;> decide +kernel

theorem witness_CursorAttachOutcome :
    busy.takes ∧ busy.transitional 9 = false ∧ (busy.letter 9).state ≠ .free ∧ (busy.letter 1023).state = .free ∧
    busy.transitional 1023 = false ∧ closing.transitional 7 = true ∧ (busy.cursor 1).letter = some 9 ∧
    (busy.cursor 31).letter = none := by
  refine ⟨⟨?_, ?_⟩, ?_⟩ <;> decide +kernel

theorem witness_CursorDetachRebaseAndTarget :
    busy.takes ∧ (busy.cursor 1).letter = some 9 ∧ (busy.cursor 31).letter = none ∧
    (16777215 : BitVec 32).toNat ≤ 16777215 ∧ 16777215 < (16777216 : BitVec 32).toNat ∧ (65535 : BitVec 32).toNat ≤ 65535 ∧
    65535 < (65536 : BitVec 32).toNat := by
  refine ⟨⟨?_, ?_⟩, ?_⟩ <;> decide +kernel

theorem witness_CueAddOutcome :
    busy.takes ∧ busy.transitional 9 = false ∧ (busy.letter 9).state ≠ .free ∧ (busy.letter 7).state = .recording ∧
    (1 : Byte).toNat = CueKind.instruction.code ∧ (3 : Byte).toNat = CueKind.brk.code ∧
    (∃ q ∈ (busy.letter 9).cues, q.pos = 2 ∧ q.kind = .spelling) ∧ (¬∃ q ∈ (busy.letter 9).cues, q.pos = 3 ∧ q.kind = .brk) ∧
    0 < busy.freeCues ∧ (busy.letter 9).cues.length < 64 ∧ ¬0 < ({ busy with freeCues := 0 } : State).freeCues ∧
    Tab.wf Cursor.initial busy.cursors = true ∧ closing.transitional 7 = true := by
  refine ⟨⟨?_, ?_⟩, ?_⟩ <;> decide +kernel

theorem witness_CueRemoveOutcome :
    busy.takes ∧ busy.transitional 9 = false ∧ (busy.letter 9).state ≠ .free ∧ (2 : Byte).toNat = CueKind.spelling.code ∧
    (∃ q ∈ (busy.letter 9).cues, q.pos = 2 ∧ q.kind = .spelling) ∧ (¬∃ q ∈ (busy.letter 9).cues, q.pos = 3 ∧ q.kind = .spelling) ∧
    (∀ q ∈ (busy.letter 9).cues, q.pos ≤ (busy.letter 9).length) ∧ (busy.letter 9).length < 4 ∧
    Tab.wf Cursor.initial busy.cursors = true := by
  refine ⟨⟨?_, ?_⟩, ?_⟩ <;> decide +kernel

theorem witness_StepSizesIndexAndCheckWord :
    ((79 : Nat) ≤ 79 ∧ (7 : Nat) ≤ 7 ∧ recordKind (0x53 :: 80 :: zeros 78) = 0x53 ∧ 79 < ((0x53 :: 80 :: zeros 78).getD 1 0).toNat) ∧
    (zeros 14).length = 14 ∧ (zeros 64).length = 64 ∧ (List.replicate 128 (0 : Int)).length = 128 ∧
    (let r := encodeRecord 1023 (List.replicate 128 0) 79
     r.length = 80 ∧ recordPasses r = true ∧ ((1 : Byte) ++ (0 : Byte) : BitVec 16) ≠ r.getD 79 0 ++ r.getD 78 0) := by
  decide +kernel

theorem witness_DecodingGivesTheReconstructions :
    1023 < 1024 ∧ 79 ≤ 79 ∧ (List.replicate 127 (-32768 : Int)).length = 127 ∧
    ((List.replicate 127 15).length = 127 ∧ (∀ c ∈ List.replicate 127 15, c < 16) ∧ (zeros 80).length = 80 ∧
      (0xF0 : Byte).toNat % 16 = ((zeros 80).getD 79 0).toNat % 16) ∧
    ∀ y ∈ (32767 : Int) :: List.replicate 127 (-32768), isSample y := by
  refine ⟨by decide, by decide, List.length_replicate, by decide +kernel, ?_⟩
  intro y h
  simp only [List.mem_cons, List.mem_replicate] at h
  unfold isSample
  omega

theorem witness_ArbiterOrder : busy.pressedPtr ≤ 31 ∧ busy.unpressedPtr ≤ 31 := by decide +kernel

/-- Channel 2 asks for an encode job. -/
def asking : State := { busy with channels := [(2, finished .awaitingEncode none)] }

theorem witness_EncodeGrantStartsAJob :
    asking.part = .running ∧ asking.engine 1 = .free ∧ arbiterChoice asking = some (.encode 2 false) ∧
    (asking.channel 2).queue.length = 1 ∧ asking.nextSlot 2 = some (0, 3) ∧
    (let s : State := { asking with
       bins := [], freeBins := []
       channels := [(2, { finished .awaitingEncode none with
         buf1 := .finished (List.replicate 128 3), editPoint := some 3
         queue := [queued7 1 .awaitingEncode 0 none, queued7 2 .awaitingEncode 1 none] })] }
     s.nextSlot 2 = none ∧ arbiterChoice s = some (.encode 2 true) ∧ (s.channel 2).queue.map FFrame.place = [none, none] ∧
       (s.channel 2).queue.tail.map FFrame.stage = [.awaitingEncode]) ∧
    (arbiterChoice busy = none ∧ (resetting true).part ≠ .running ∧ writing.engine 0 ≠ .free) := by
  decide +kernel

/-- Channel 2's frame in slot 3 of bin 0 while engine 0 writes it, with a frame behind it. -/
def writing2 : State :=
  { writing with channels := [(2, { finished .encoding (some (0, 3)) with
      buf1 := .finished (List.replicate 128 3), editPoint := some 3
      queue := [queued7 1 .encoding 0 (some (0, 3)), queued7 2 .awaitingEncode 1 none] })] }

theorem witness_EncodeJobEnds :
    ({ busy with engine0 := .coding 2 7 0 (List.replicate 128 0) 16 0 3 } : State).engine 0 =
      .coding 2 7 0 (List.replicate 128 0) 16 0 3 ∧
    writing2.engine 0 = .writing 2 7 0 16 0 3 5 ∧
    (let f := queued7 1 .encoding 0 (some (0, 3))
     let q := [queued7 2 .awaitingEncode 1 none]
     (writing2.channel 2).queue = f :: q ∧ q.map FFrame.stage = [.awaitingEncode] ∧ f.buffer = 0 ∧ f.place = some (0, 3) ∧
       f.speech = true ∧ f.cap = none ∧ placeLimit f (writing2.letter 7) writing2.freeSegs = none ∧
       placeLimit f (writing2.letter 7) 0 = some .segments) ∧
    writing2.part ≠ .resetting ∧ (writing2.letter 7).state = .recording ∧ (writing2.letter 7).channel = some 2 ∧
    MemCode.other .decerr ≠ .okay ∧
    (let s : State := { writing with part := .resetting, channels := [] }
     s.engine 0 = .writing 2 7 0 16 0 3 5 ∧ s.part = .resetting ∧ (s.channel 2).queue = []) := by decide +kernel

theorem witness_DecodeGrantClaimsAnEntry :
    requested.part = .running ∧ requested.engine 0 = .free ∧ arbiterChoice requested = some .decode ∧
    requested.drq = [{ letter := 9, frame := 1, urgent := false, waiters := [{ entry := 6, letter := 9, frame := 1 }] }] ∧
    (requested.cache.map (·.num)).Nodup ∧ requested.cache.find? (·.isEmpty) = some { num := 0, st := .empty } ∧
    (requested.letter 9).lookup 1 = .speech 0 2 ∧ (requested.letter 9).lookup 2 = .hush ∧ fullQueue.room ≠ [] ∧
    (let s : State := { requested with cache := [{ num := 31, st := .valid 9 0 [] }] }
     s.cache.find? (·.isEmpty) = none ∧ s.cache.find? (·.isValid) = some { num := 31, st := .valid 9 0 [] }) := by decide +kernel

theorem witness_DecodeJobEnds :
    (({ busy with engine0 := .reading 9 1 0 2 0 } : State).engine 0 = .reading 9 1 0 2 0 ∧
      answerWf 80 .okay (zeros 80) = true ∧ answerWf 80 (.other .slverr) [] = true) ∧
    ((decoded .memory).engine 0 = .decoding 9 1 0 2 0 .memory ∧ ((decoded .memory).cache.map (·.num)).Nodup ∧
      { num := 0, st := .filling 9 1 0 2 [{ entry := 6, letter := 9, frame := 1 }] } ∈ (decoded .memory).cache) ∧
    (let s : State := { decoded .memory with
       cache := [{ num := 0, st := .stale 9 1 0 2 [{ entry := 6, letter := 9, frame := 1 }] }] }
     s.engine 0 = .decoding 9 1 0 2 0 .memory ∧ (s.cache.map (·.num)).Nodup ∧
       { num := 0, st := .stale 9 1 0 2 [{ entry := 6, letter := 9, frame := 1 }] } ∈ s.cache) := by decide +kernel

theorem witness_RoomWaitingIsServed :
    busy.room = [] ∧
    (fullQueue.roomDue = 1 ∧ fullQueue.drq.length = 64 ∧
      fullQueue.room = { entry := 6, letter := 9, frame := 1 } :: [{ entry := 6, letter := 9, frame := 2 }] ∧
      fullQueue.drq.any (Request.isFor 9 1) = true) ∧
    (let s : State := { fullQueue with room := [{ entry := 6, letter := 9, frame := 2 }] }
     s.cache.any (CacheEntry.validFor 9 2) = false ∧ s.cache.any (CacheEntry.fillingFor 9 2) = false ∧
       s.drq.any (Request.isFor 9 2) = false ∧ 64 ≤ s.drq.length ∧ ({ s with drq := s.drq.tail } : State).drq.length < 64) := by
  decide +kernel

theorem witness_PostingANotice :
    (State.reset.part = .unconfigured ∧ busy.part ≠ .unconfigured) ∧
    (let c : Nat → State := fun n => { busy with consCopy := BitVec.ofNat 32 n, overflow := true, lost := 65535 }
     (0 + 1) % 64 = (c 1).consCopy.toNat % 64 ∧ (0 + 1) % 64 ≠ (c 2).consCopy.toNat % 64 ∧
       (1 + 1) % 64 = (c 2).consCopy.toNat % 64 ∧ (1 + 1) % 64 ≠ (c 3).consCopy.toNat % 64 ∧ (c 1).overflow = true) ∧
    busy.overflow = false := by decide +kernel

theorem witness_LoudCountAndLine :
    busy.ringSize ≠ 0 ∧ busy.prod < busy.ringSize ∧ ({ busy with prod := 63 } : State).prod < busy.ringSize ∧ busy.canPost ∧
    busy.consIdx = busy.prod := by
  refine ⟨?_, ?_, ?_, ⟨?_, ?_, ?_⟩, ?_⟩ <;> decide +kernel

theorem witness_CommandRecordsAgree :
    (∃ r, recordOfCommand (.letterOpen 0xFFFF 0xFFFF 0xFFFF 0xFF) = some r) ∧ (∃ r, recordOfCommand (.badCommand (some 255)) = some r) ∧
    Instr.wf (.letterOpen 0xFFFF 0xFFFF 0xFFFF 0xFF) = true ∧ Instr.wf (.badCommand (some 255)) = true :=
  ⟨⟨_, rfl⟩, ⟨_, rfl⟩, by decide, by decide⟩

theorem letter_busy (n : Nat) : busy.letter n = if 7 = n then letter7 else if 9 = n then letter9 else Letter.free := by
  show (Tab.find [(7, letter7), (9, letter9)] n).getD Letter.free = _
  simp only [Tab.find]
  split
  · rfl
  · split <;> rfl

theorem channel_busy (c : Nat) : busy.channel c = if 2 = c then channel2 else Channel.initial := by
  show (Tab.find [(2, channel2)] c).getD Channel.initial = _
  simp only [Tab.find]
  split <;> rfl

theorem cursor_busy (c : Nat) : busy.cursor c = if 1 = c then cursor1 else Cursor.initial := by
  show (Tab.find [(1, cursor1)] c).getD Cursor.initial = _
  simp only [Tab.find]
  split <;> rfl

theorem bin_busy (b : Nat) :
    busy.bin b = if 0 = b then { state := .open_ 2, fill := 3, live := 3, inFlight := 0, reads := 0 } else Bin.fresh := by
  show (Tab.find [(0, ({ state := .open_ 2, fill := 3, live := 3, inFlight := 0, reads := 0 } : Bin))] b).getD Bin.fresh = _
  simp only [Tab.find]
  split <;> rfl

/-- The part at work, with a command waiting. -/
def stepping : State := { busy with pending := [.letterHold 9 1] }

theorem witness_steps : ∃ t, step stepping = .next t := ⟨_, rfl⟩

theorem witness_RegistersStayInRange : RegistersOk stepping := by
  refine ⟨⟨?_, ?_, ?_, ?_, ?_⟩, ?_, ?_, ?_, ?_, ?_, ?_, ?_, ?_, ?_, ?_, ?_, ?_, ?_⟩
  case refine_6 => intro c; show (busy.channel c).threshold ≤ _; rw [channel_busy]; split <;> decide
  case refine_7 => intro c; show (busy.channel c).hang ≤ _ ∧ (busy.channel c).hangCount ≤ _; rw [channel_busy]; split <;> decide
  case refine_8 => intro c; show (busy.channel c).cap ≤ _; rw [channel_busy]; split <;> decide
  case refine_9 => intro c; show (busy.channel c).carried ≤ _; rw [channel_busy]; split <;> decide
  case refine_10 => exact ⟨trivial, trivial⟩
  case refine_11 => intro c; show _ ≤ (busy.cursor c).rate ∧ (busy.cursor c).rate ≤ _; rw [cursor_busy]; split <;> decide
  case refine_12 => intro c; show _ ≤ (busy.cursor c).tempRate ∧ (busy.cursor c).tempRate ≤ _; rw [cursor_busy]; split <;> decide
  case refine_13 => intro c; show (busy.cursor c).base ≤ _ ∧ (busy.cursor c).tempDur ≤ _; rw [cursor_busy]; split <;> decide
  case refine_14 => intro c; show (busy.cursor c).interval ≤ _; rw [cursor_busy]; split <;> decide
  case refine_18 => intro c h; cases h; decide +kernel
  all_goals decide +kernel

theorem witness_DecodeCacheStaysSound : CacheOk stepping := by
  have kinds : ∀ e ∈ busy.cache, e.st = .empty ∨ (e.num = 31 ∧ e.st = .valid 9 0 (List.replicate 128 (-2))) := by decide +kernel
  have only : ∀ e ∈ busy.cache, ∀ l f, e.serves l f → e.num = 31 := by
    intro e he l f hs
    rcases kinds e he with h | h
    · simp [CacheEntry.serves, CacheEntry.validFor, CacheEntry.fillingFor, h] at hs
    · exact h.1
  have free : ∀ g num l f, ¬(busy.engine g).decodesInto num l f := by
    intro g num l f h
    have h0 : busy.engine g = .free := by unfold State.engine; split <;> rfl
    rw [h0] at h
    rcases h with ⟨b, sl, h⟩ | ⟨b, sl, r, h⟩ <;> cases h
  refine ⟨?_, ?_, ?_, ?_, ?_, ?_, ?_, ?_⟩
  · have : busy.cache.map (·.num) = List.range 32 := by decide +kernel
    exact .of_eq this
  · exact (List.pairwise_map.mp cacheNumbered_busy).imp_of_mem
      fun ha hb hne l f h => hne ((only _ ha l f h.1).trans (only _ hb l f h.2).symm)
  · decide +kernel
  · exact List.Pairwise.nil
  · intro r hr; cases hr
  · intro g num l f h; exact absurd h (free g num l f)
  · intro e he l f b sl ws h
    rcases kinds e he with h0 | ⟨-, h0⟩ <;> rw [h0] at h <;> rcases h with h | h <;> cases h
  · intro num l f l' f' h; exact free 0 num l f h.1

theorem joinedOk_stepping : JoinedOk stepping := by
  refine ⟨⟨?_, ?_, ?_, ?_, ?_⟩, ?_, ?_, ?_, ?_, ?_, ?_, ?_, ?_⟩
  case refine_6 =>
    intro n
    show (busy.letter n).state = .recording ↔ (busy.letter n).channel ≠ none
    rw [letter_busy]
    split
    · decide
    · split <;> decide
  case refine_7 =>
    intro n c
    show (busy.letter n).channel = some c ↔ (busy.channel c).letter = some n
    rw [letter_busy, channel_busy]
    by_cases h7 : 7 = n <;> by_cases h9 : 9 = n <;> by_cases h2 : 2 = c <;>
      simp [h7, h9, h2, letter7, letter9, channel2, Letter.free, Channel.initial]
  case refine_8 =>
    intro c
    show (busy.channel c).state = .idle ↔ (busy.channel c).letter = none
    rw [channel_busy]
    split <;> decide
  case refine_9 =>
    intro c
    show (busy.channel c).state = .idle ∨ (busy.channel c).state = .flushing →
      (busy.channel c).runKind = none ∧ (busy.channel c).waiting = []
    rw [channel_busy]
    split <;> decide
  case refine_10 => intro x h; cases h
  case refine_11 => exact List.Pairwise.nil
  case refine_12 =>
    intro c n
    show (busy.cursor c).letter = some n → (busy.letter n).serves
    rw [cursor_busy, letter_busy]
    by_cases h1 : 1 = c
    · simp only [h1, if_true]
      intro h
      have h9 : 9 = n := Option.some.inj h
      subst h9
      exact .inr (.inl rfl)
    · simp [h1, Cursor.initial]
  case refine_13 =>
    intro n
    show (busy.letter n).cursorCount = ([(1, cursor1)].filter fun p => decide (p.2.letter = some n)).length
    rw [letter_busy]
    by_cases h7 : 7 = n
    · subst h7; decide
    · by_cases h9 : 9 = n
      · subst h9; decide
      · simp [h7, h9, cursor1, Letter.free]
  all_goals decide +kernel

theorem witness_AttachmentsStayJoined : JoinedOk stepping ∧ TargetsOk stepping := by
  refine ⟨joinedOk_stepping, ?_⟩
  intro c
  show match (busy.cursor c).letter with
    | none => (busy.cursor c).target = none
    | some n => (busy.cursor c).targetIsNext (busy.letter n).cues
  rw [cursor_busy]
  by_cases h1 : 1 = c
  · simp only [h1, if_true]
    show cursor1.targetIsNext (busy.letter 9).cues
    refine ⟨.inl ⟨rfl, _, List.mem_singleton_self _, rfl⟩, by decide, ?_⟩
    rintro f (⟨-, q, hq, rfl⟩ | ⟨h, -⟩) -
    · cases List.mem_singleton.mp hq; exact Nat.le_refl 2
    · exact absurd h (by decide)
  · simp [h1, Cursor.initial]

theorem poolsOk_stepping : SegmentsOk stepping ∧ CuesOk stepping := by
  refine ⟨⟨?_, ?_⟩, ⟨?_, ?_, ?_, ?_, ?_, ?_⟩⟩
  case refine_5 =>
    intro n; show (busy.letter n).cues.Pairwise _; rw [letter_busy]
    split
    · decide
    · split <;> decide
  case refine_6 =>
    intro n; show (busy.letter n).cues.length ≤ 64; rw [letter_busy]
    split
    · decide
    · split <;> decide
  case refine_7 =>
    intro n; show ∀ q ∈ (busy.letter n).cues, q.pos ≤ (busy.letter n).length; rw [letter_busy]
    split
    · decide
    · split <;> decide
  case refine_8 =>
    intro n; show (busy.letter n).state = .free → (busy.letter n).cues = []; rw [letter_busy]
    split
    · decide
    · split <;> decide
  all_goals decide +kernel

theorem binsOk_stepping : BinsOk stepping := by
  refine ⟨?_, ?_, ?_, ?_, ?_, ?_, ?_, ?_⟩
  case refine_2 => intro b; show (busy.bin b).state = .free → (busy.bin b).fill = 0; rw [bin_busy]; split <;> decide
  case refine_3 =>
    intro b c h
    have h : (busy.bin b).state = .open_ c := h
    show 1 ≤ (busy.bin b).fill ∧ (busy.bin b).fill ≤ 31
    rw [bin_busy] at h ⊢
    split at h
    · split <;> decide
    · cases h
  case refine_4 => intro b; show (busy.bin b).state = .shut → (busy.bin b).fill = 32; rw [bin_busy]; split <;> decide
  case refine_5 =>
    intro b; show (busy.bin b).state ≠ .free → b < 4; rw [bin_busy]
    split
    · omega
    · intro h; exact absurd rfl h
  case refine_6 =>
    intro b; show b ∈ [1, 2, 3] ↔ b < 4 ∧ (busy.bin b).state = .free; rw [bin_busy]
    by_cases h : 0 = b
    · subst h; decide
    · simp [h, Bin.fresh]; omega
  case refine_8 =>
    intro b d c h h'
    have h : (busy.bin b).state = .open_ c := h
    have h' : (busy.bin d).state = .open_ c := h'
    rw [bin_busy] at h h'
    split at h
    · split at h'
      · omega
      · cases h'
    · cases h
  all_goals decide +kernel

theorem witness_PoolsAndBinTableStaySound : SegmentsOk stepping ∧ CuesOk stepping ∧ BinsOk stepping :=
  ⟨poolsOk_stepping.1, poolsOk_stepping.2, binsOk_stepping⟩

/-- The read of entry 6 waits for frame 1 of letter 9. -/
def waiting6 : Entry := { held (rd (ap 1 9 129) 2) 1 9 0 .waitingFrames with letter := some 9, needs := [1], buf := zeros 2 }

/-- The part at work with a read that waits, its request in the queue. -/
def reading : State := { stepping with drq := requested.drq, nextRank := 1, entries := [(6, waiting6)] }

theorem entry_reading {n : Nat} {e : Entry} : reading.entry n = some e ↔ n = 6 ∧ e = waiting6 := by
  show (if 6 = n then some waiting6 else none) = some e ↔ _
  split
  · next h => exact ⟨fun x => ⟨h.symm, (Option.some.inj x).symm⟩, fun x => congrArg some x.2.symm⟩
  · next h => exact ⟨nofun, fun x => absurd x.1.symm h⟩

theorem joinedOk_reading : JoinedOk reading :=
  let j := joinedOk_stepping
  ⟨⟨j.tables.letters, j.tables.channels, j.tables.cursors, j.tables.bins, by decide +kernel⟩,
    j.recording, j.attached, j.idle, j.quiet, j.discarding, j.once, j.cursors, j.counts⟩

theorem cacheOk_reading : CacheOk reading := by
  have k := witness_DecodeCacheStaysSound
  refine ⟨k.numbers, k.keys, by decide, List.pairwise_singleton _ _, ?_, k.jobs, k.pending, k.apart⟩
  intro r hr e he hs
  cases List.mem_singleton.mp hr
  have kinds : ∀ e ∈ busy.cache, e.validFor 9 1 = false ∧ e.fillingFor 9 1 = false := by decide +kernel
  have h := kinds e he
  simp [CacheEntry.serves, h.1, h.2] at hs

theorem quiet_reading (c : Nat) : (reading.channel c).waiting = [] := by
  show (busy.channel c).waiting = []
  rw [channel_busy]
  split <;> rfl

theorem entriesOk_reading : EntriesOk reading := by
  have needs : reading.waitingNeeds = [{ entry := 6, letter := 9, frame := 1 }] := by decide +kernel
  have one : ∀ {P : Nat → Entry → Prop}, P 6 waiting6 → ∀ n e, reading.entry n = some e → P n e := by
    intro P h n e he
    obtain ⟨rfl, rfl⟩ := entry_reading.mp he
    exact h
  refine ⟨by decide, one (by decide +kernel), ?_, one ⟨?_, by decide⟩, one (by decide), one ?_, one (by decide), ?_, one ?_, ?_,
    ?_, ?_, ?_, one (by decide), ?_, ?_, nofun, one nofun, List.Pairwise.nil⟩
  · intro n m e x he hx _
    exact (entry_reading.mp he).1.trans (entry_reading.mp hx).1.symm
  · exact ⟨by decide, rfl⟩
  · exact ⟨by simp [Entry.heldWrite, waiting6, held], fun _ => rfl⟩
  · intro c m
    rw [quiet_reading]
    refine ⟨nofun, ?_⟩
    rintro ⟨e, he, hw, -⟩
    obtain ⟨-, rfl⟩ := entry_reading.mp he
    simp [Entry.heldWrite, waiting6, held] at hw
  · simp [Entry.heldWrite, waiting6, held]
  · intro c; rw [quiet_reading]; exact List.nodup_nil
  · intro c; rw [quiet_reading]; nofun
  · rw [needs]; exact List.nodup_singleton _
  · intro w
    rw [needs, List.mem_singleton]
    constructor
    · rintro rfl
      exact ⟨waiting6, rfl, rfl, rfl, List.mem_singleton_self _⟩
    · rintro ⟨e, he, -, hl, hf⟩
      obtain ⟨h6, rfl⟩ := entry_reading.mp he
      obtain ⟨x, l, f⟩ := w
      cases h6
      cases Option.some.inj hl
      cases List.mem_singleton.mp hf
      rfl
  · intro r hr w hw
    cases List.mem_singleton.mp hr
    cases List.mem_singleton.mp hw
    exact ⟨rfl, rfl⟩
  · intro e he
    have kinds : ∀ e ∈ busy.cache, e.st = .empty ∨ e.st = .valid 9 0 (List.replicate 128 (-2)) := by decide +kernel
    unfold CacheEntry.keyed
    rcases kinds e he with h | h <;> rw [h] <;> trivial

theorem witness_TransactionsStaySound : JoinedOk reading ∧ CacheOk reading ∧ EntriesOk reading :=
  ⟨joinedOk_reading, cacheOk_reading, entriesOk_reading⟩

theorem queue_reading (c : Nat) : (reading.channel c).queue = [] := by
  show (busy.channel c).queue = []
  rw [channel_busy]
  split <;> rfl

theorem queuesOk_reading : QueuesOk reading := by
  refine ⟨?_, ?_, ?_, ?_, ?_, ?_, ?_, ?_⟩
  case refine_6 =>
    intro c e n he hn
    rw [queue_reading]
    have he : (busy.channel c).editPoint = some e := he
    have hn : (busy.channel c).letter = some n := hn
    show 0 ≤ e ∧ e ≤ (busy.letter n).length + 0
    rw [channel_busy] at he hn
    rw [letter_busy]
    split at he
    · cases he
      split at hn
      · cases hn; decide
      · contradiction
    · cases he
  case refine_1 => intro c; show (busy.channel c).state = .run ↔ (busy.channel c).runKind ≠ none; rw [channel_busy]; split <;> decide
  case refine_2 => intro c; show (busy.channel c).nextIdx ≠ none ↔ (busy.channel c).runKind ≠ none; rw [channel_busy]; split <;> decide
  case refine_3 =>
    intro c
    rw [queue_reading]
    show (busy.channel c).runKind ≠ none ∨ _ → (busy.channel c).editPoint ≠ none
    rw [channel_busy]
    split <;> decide
  all_goals intro c; rw [queue_reading]; nofun

theorem lettersOk_reading : LettersOk reading := by
  have all : ∀ {P : Letter → Prop}, P letter7 → P letter9 → P Letter.free → ∀ n, P (reading.letter n) := by
    intro P h7 h9 h0 n
    show P (busy.letter n)
    rw [letter_busy]
    split
    · exact h7
    · split
      · exact h9
      · exact h0
  refine ⟨?_, ?_, ?_, ?_, ?_⟩
  · exact all (P := fun l => l.length = l.speech + l.hush ∧ l.length ≤ 131072) (by decide) (by decide) (by decide)
  · exact all (P := fun l => l.state ≠ .discarding →
      (l.segs.map Seg.frames).sum = l.length ∧ (l.segs.map Seg.speechFrames).sum = l.speech) (by decide) (by decide) (by decide)
  · exact all (P := fun l => (l.segs.map Seg.frames).sum ≤ l.length) (by decide) (by decide) (by decide)
  case refine_5 => exact all (P := fun l => l.state = .free → l = Letter.free) nofun nofun fun _ => rfl
  refine all (P := fun l => ∀ g ∈ l.segs, g.bounded) ?_ ?_ nofun
  · intro g hg; cases List.mem_singleton.mp hg; exact ⟨by decide, by decide⟩
  · intro g hg
    simp only [letter9, List.mem_cons, List.not_mem_nil, or_false] at hg
    rcases hg with rfl | rfl <;> exact ⟨by decide, by decide⟩

theorem witness_LetterRecordsStaySound : JoinedOk reading ∧ BinsOk reading ∧ QueuesOk reading ∧ LettersOk reading :=
  let b := binsOk_stepping
  ⟨joinedOk_reading, ⟨b.bins, b.free, b.open_, b.shut, b.used, b.listed, b.once, b.owned⟩, queuesOk_reading, lettersOk_reading⟩

theorem countsOk_reading : CountsOk reading := by
  have slots : reading.letterSlots = [(0, 0), (0, 1), (0, 2)] := by decide +kernel
  have queued : reading.queuedSlots = [] := by decide +kernel
  refine ⟨?_, ?_, ?_, ?_, ?_, ?_⟩
  · intro b
    rw [slots]
    show (busy.bin b).live = _
    rw [bin_busy]
    by_cases h : 0 = b
    · subst h; rfl
    · simp [h, Bin.fresh]
  · intro b
    rw [queued]
    show (busy.bin b).inFlight = 0
    rw [bin_busy]
    split <;> rfl
  · intro _ b
    show (busy.bin b).reads = 0
    rw [bin_busy]
    split <;> rfl
  · intro b
    show (busy.bin b).live + (busy.bin b).inFlight ≤ (busy.bin b).fill ∧ (busy.bin b).fill ≤ 32
    rw [bin_busy]
    split <;> decide
  · rw [slots, queued]; decide
  · rw [slots, queued]
    intro p hp
    have h0 : p.1 = 0 ∧ p.2 < 3 := by
      have : ∀ q ∈ [((0 : Nat), (0 : Nat)), (0, 1), (0, 2)], q.1 = 0 ∧ q.2 < 3 := by decide
      exact this p (by simpa using hp)
    show p.2 < (busy.bin p.1).fill
    rw [h0.1]
    exact h0.2

theorem witness_BinCountsStaySound :
    JoinedOk reading ∧ CacheOk reading ∧ EntriesOk reading ∧ BinsOk reading ∧ QueuesOk reading ∧ LettersOk reading ∧
    StoreIdle reading ∧ CountsOk reading ∧ ∃ t, step reading = .next t :=
  ⟨joinedOk_reading, cacheOk_reading, entriesOk_reading, witness_LetterRecordsStaySound.2.1, queuesOk_reading, lettersOk_reading,
    ⟨fun h => absurd rfl h, nofun, nofun⟩, countsOk_reading, _, rfl⟩


theorem buffersOk_reading : BuffersOk reading := by
  have at2 : ∀ {P : Channel → Prop}, P channel2 → P Channel.initial → ∀ c, P (reading.channel c) := by
    intro P h2 h0 c
    show P (busy.channel c)
    rw [channel_busy]
    split
    · exact h2
    · exact h0
  have open_ : ∀ c i, (reading.channel c).buffer i = .free ∨
      (reading.channel c).buffer i = .filling (List.replicate 100 3) ∧ (reading.channel c).runKind = some .pcm :=
    at2 (P := fun ch => ∀ i, ch.buffer i = .free ∨ ch.buffer i = .filling (List.replicate 100 3) ∧ ch.runKind = some .pcm)
      (fun i => by unfold Channel.buffer; split <;> simp [channel2, Channel.initial]) (fun i => .inl (by unfold Channel.buffer; split <;> rfl))
  have idle : ∀ g c b p, ¬(reading.engine g).encodes c b p := by
    intro g c b p h
    have h0 : reading.engine g = .free := by unfold State.engine; split <;> rfl
    rw [h0] at h
    rcases h with ⟨l, xs, kin, h⟩ | ⟨l, kin, kout, h⟩ <;> cases h
  refine ⟨?_, ?_, ?_, ?_, ?_, ?_, ?_, ?_, ?_, ?_, nofun⟩
  · intro c i xs h
    rcases open_ c i with h0 | ⟨h0, hk⟩
    · rw [h0] at h; cases h
    · rw [h0] at h; cases h; exact ⟨by decide, by decide, hk⟩
  · exact at2 (P := fun ch => ¬(ch.buf0.isFilling = true ∧ ch.buf1.isFilling = true)) (by decide) (by decide)
  · intro c i xs h
    rcases open_ c i with h0 | ⟨h0, -⟩ <;> rw [h0] at h <;> cases h
  · intro c; rw [queue_reading]; nofun
  · intro c i _ h
    rcases open_ c i with h0 | ⟨h0, -⟩ <;> rw [h0] at h <;> exact absurd h (by decide)
  · intro c; rw [queue_reading]; exact List.nodup_nil
  · intro c; rw [queue_reading]; exact Nat.zero_le 2
  · intro c; rw [queue_reading]; nofun
  · intro c b p b' p' h; exact idle 0 c b p h.1
  · intro _ g c b p h; exact absurd h (idle g c b p)

theorem witness_FrameBuffersStaySound :
    JoinedOk reading ∧ CacheOk reading ∧ EntriesOk reading ∧ BinsOk reading ∧ QueuesOk reading ∧ LettersOk reading ∧
    StoreIdle reading ∧ CountsOk reading ∧ BuffersOk reading ∧ ∃ t, step reading = .next t :=
  ⟨joinedOk_reading, cacheOk_reading, entriesOk_reading, witness_LetterRecordsStaySound.2.1, queuesOk_reading, lettersOk_reading,
    ⟨fun h => absurd rfl h, nofun, nofun⟩, countsOk_reading, buffersOk_reading, _, rfl⟩

end Sys2Proof.Tests
end

section
/-! Settles O41. What the frame codec's functions give, in the order of their definitions: step sizes (R63), the movement
of the step index (R64), and the check word of a record (R69). -/

namespace Sys2Proof.Machine

open Sys2Proof

/-! ### Bytes and words of a record -/

theorem fieldAt_one (r : List Byte) (off : Nat) : fieldAt r off 1 = (r.getD off 0).toNat := by
  rw [fieldAt, bytesAt, List.take_one, List.head?_drop, List.getD_eq_getElem?_getD]
  cases r[off]? <;> simp [leNat]

/-- The word that starts at even byte 2i of a record (Section 4.1). -/
def wordAt (r : List Byte) (i : Nat) : BitVec 16 := r.getD (2 * i + 1) 0 ++ r.getD (2 * i) 0

/-- Record `r` with the bytes of word i replaced. -/
def setWord (r : List Byte) (i : Nat) (lo hi : Byte) : List Byte := (r.set (2 * i) lo).set (2 * i + 1) hi

@[simp] theorem length_setWord (r : List Byte) (i : Nat) (lo hi : Byte) : (setWord r i lo hi).length = r.length := by
  simp [setWord]

theorem getD_setWord_of_ne (r : List Byte) {i k : Nat} (lo hi : Byte) (h0 : k ≠ 2 * i) (h1 : k ≠ 2 * i + 1) :
    (setWord r i lo hi).getD k 0 = r.getD k 0 := by
  rw [setWord, List.getD_eq_getElem?_getD, List.getElem?_set_ne h1.symm, List.getElem?_set_ne h0.symm,
    List.getD_eq_getElem?_getD]

/-! ### Step sizes (R63) -/

/-- Entry i of row `row` of Table 4-2. -/
theorem stepSize_row (row : Nat) {i : Nat} (hi : i < 8) : stepSize (8 * row + i) = (8 + i) * 2 ^ row := by
  have hmod : (8 * row + i) % 8 = i := by omega
  have hdiv : (8 * row + i) / 8 = row := by omega
  rw [stepSize, hmod, hdiv]

theorem stepSize_add_eight (k : Nat) : stepSize (k + 8) = 2 * stepSize k := by
  rw [stepSize, stepSize, Nat.add_mod_right, Nat.add_div_right k (by decide), Nat.pow_succ, ← Nat.mul_assoc, Nat.mul_comm]

/-- Within a row a step grows by one eighth of the row's first value. -/
theorem stepSize_growth (row : Nat) {i : Nat} (hi : i < 7) :
    8 * (stepSize (8 * row + i + 1) - stepSize (8 * row + i)) = stepSize (8 * row) := by
  have hnext : stepSize (8 * row + i + 1) = (8 + (i + 1)) * 2 ^ row := stepSize_row row (i := i + 1) (by omega)
  have hfirst : stepSize (8 * row) = 8 * 2 ^ row := stepSize_row row (i := 0) (by decide)
  have hone : 8 + (i + 1) - (8 + i) = 1 := by omega
  rw [hnext, stepSize_row row (by omega : i < 8), hfirst, ← Nat.sub_mul, hone, Nat.one_mul]

theorem eight_le_stepSize (k : Nat) : 8 ≤ stepSize k :=
  calc 8 ≤ 8 + k % 8 := Nat.le_add_right _ _
    _ ≤ stepSize k := Nat.le_mul_of_pos_right _ (Nat.two_pow_pos _)

theorem stepSize_le {k : Nat} (h : k ≤ 79) : stepSize k ≤ 7680 :=
  calc stepSize k ≤ 15 * 2 ^ 9 :=
        Nat.mul_le_mul (by omega) (Nat.pow_le_pow_right (by decide) (by omega))
    _ = 7680 := rfl

/-- R71: a SPEECH record with an initial step index above 79 is not decoded. -/
theorem decodeResult_step {r : List Byte} (hk : recordKind r = kindSpeech) (hs : 79 < recordStep r) :
    decodeResult .okay r = .damaged .step := by
  simp [decodeResult, testRecord, hk, hs]

/-! ### The step index (R64) -/

theorem clampInt_eq_max_min (v : Int) {lo hi : Int} (h : lo ≤ hi) : clampInt v lo hi = max lo (min v hi) := by
  unfold clampInt
  split
  · omega
  · split <;> omega

/-- Table 4-3 as a list. -/
theorem adjust_eq_getD {m : Nat} (h : m ≤ 7) : adjust m = [-1, -1, 0, 0, 2, 3, 4, 6].getD m 0 := by
  interval_cases m <;> rfl

theorem nextStep_eq (k m : Nat) : (nextStep k m : Int) = max 0 (min ((k : Int) + adjust m) 79) := by
  rw [nextStep, clampInt_eq_max_min _ (by decide), Int.toNat_of_nonneg (Int.le_max_left _ _)]

theorem nextStep_le (k m : Nat) : nextStep k m ≤ 79 := by
  have := nextStep_eq k m
  omega

/-- At index 79 a code of magnitude 4 to 7 leaves the index where it is. -/
theorem nextStep_top {m : Nat} (h4 : 4 ≤ m) (h7 : m ≤ 7) : nextStep 79 m = 79 := by
  interval_cases m <;> rfl

theorem magnitude_le (d : Int) (st : Nat) : magnitude d st ≤ 7 := Nat.min_le_left _ _

theorem codeOf_magnitude_le (x p : Int) (k : Nat) : (codeOf x p k).2 ≤ 7 := magnitude_le _ _

theorem encodeFrom_step_le (xs : List Int) (p : Int) {k : Nat} (h : k ≤ 79) : (encodeFrom xs p k).2 ≤ 79 := by
  induction xs generalizing p k with
  | nil => exact h
  | cons x r ih => exact ih _ (nextStep_le _ _)

@[simp] theorem length_encodeFrom (xs : List Int) (p : Int) (k : Nat) : (encodeFrom xs p k).1.length = xs.length := by
  induction xs generalizing p k with
  | nil => rfl
  | cons x r ih => simp [encodeFrom, ih]

/-! ### The check word (R69) -/

theorem xorWords_append (a b : List Byte) (h : 2 ∣ a.length) : xorWords (a ++ b) = xorWords a ^^^ xorWords b := by
  induction a using xorWords.induct with
  | case1 lo hi r ih =>
    have hr : 2 ∣ r.length := by simpa using h
    simp [xorWords, ih hr, BitVec.xor_assoc]
  | case2 l hl =>
    match l, hl with
    | [], _ => simp [xorWords]
    | [_], _ => simp at h
    | lo :: hi :: r, hl => exact absurd rfl (hl lo hi r)

theorem xorWords_pair (lo hi : Byte) : xorWords [lo, hi] = (hi ++ lo : BitVec 16) := BitVec.xor_zero

theorem xorWords_leBytes (w : BitVec 16) : xorWords (leBytes 2 w.toNat) = w := by
  have hw := w.isLt
  apply BitVec.eq_of_toNat_eq
  rw [leBytes, leBytes, leBytes, xorWords_pair, BitVec.toNat_append,
    ← Nat.shiftLeft_add_eq_or_of_lt (BitVec.isLt _), Nat.shiftLeft_eq, BitVec.toNat_ofNat, BitVec.toNat_ofNat]
  omega

@[simp] theorem length_sealRecord (head codes : List Byte) :
    (sealRecord head codes).length = head.length + 2 + codes.length := by
  simp [sealRecord, Nat.add_assoc]

/-- The complemented XOR of the other words makes a record pass, whatever its code area. -/
theorem recordPasses_sealRecord (head codes : List Byte) (h : 2 ∣ head.length) :
    recordPasses (sealRecord head codes) = true := by
  have cancel : ∀ a b : BitVec 16, a ^^^ ~~~(a ^^^ b) ^^^ b = 0xFFFF := by
    intro a b
    rw [BitVec.not_xor_left, ← BitVec.xor_assoc, BitVec.xor_assoc, BitVec.xor_self, BitVec.xor_zero,
      ← BitVec.not_xor_right, BitVec.xor_self]
    rfl
  rw [recordPasses, beq_iff_eq, sealRecord, xorWords_append _ _ (by simpa using h), xorWords_append _ _ h,
    xorWords_leBytes, cancel]

/-- The check word stands at byte 14, behind a header of fourteen bytes. -/
theorem fieldAt_sealRecord (head codes : List Byte) (h : head.length = 14) :
    fieldAt (sealRecord head codes) 14 2 = (~~~(xorWords (head ++ codes))).toNat := by
  have check : bytesAt (sealRecord head codes) 14 2 = leBytes 2 (~~~(xorWords head ^^^ xorWords codes)).toNat := by
    rw [bytesAt, sealRecord, List.append_assoc, List.drop_left' h, List.take_left' (length_leBytes _ _)]
  rw [fieldAt, check, leNat_leBytes, xorWords_append _ _ (by omega)]
  exact Nat.mod_eq_of_lt (BitVec.isLt _)

theorem recordPasses_encodeRecord (letter kin : Nat) (xs : List Int) :
    recordPasses (encodeRecord letter xs kin) = true :=
  recordPasses_sealRecord _ _ (by simp [zeros])

/-- Replacing a word takes the old word out of the XOR and puts the new one in. -/
theorem xorWords_setWord (r : List Byte) (i : Nat) (lo hi : Byte) (h : 2 * i + 1 < r.length) :
    xorWords (setWord r i lo hi) = xorWords r ^^^ (wordAt r i ^^^ (hi ++ lo : BitVec 16)) := by
  induction i generalizing r with
  | zero =>
    match r, h with
    | a :: b :: r, _ =>
      have old : wordAt (a :: b :: r) 0 = b ++ a := rfl
      have new : setWord (a :: b :: r) 0 lo hi = lo :: hi :: r := rfl
      rw [old, new, xorWords, xorWords, BitVec.xor_comm (b ++ a), BitVec.xor_assoc, ← BitVec.xor_assoc (b ++ a),
        BitVec.xor_self, BitVec.zero_xor, BitVec.xor_comm]
  | succ i ih =>
    match r, h with
    | a :: b :: r, h =>
      have tail : xorWords (setWord r i lo hi) = _ := ih r (by simp only [List.length_cons] at h; omega)
      have word : wordAt (a :: b :: r) (i + 1) = wordAt r i := rfl
      have rest : setWord (a :: b :: r) (i + 1) lo hi = a :: b :: setWord r i lo hi := rfl
      rw [word, rest, xorWords, xorWords, tail, BitVec.xor_assoc]

theorem xorWords_flipWord (r : List Byte) (i : Nat) (lo hi : Byte) (h : 2 * i + 1 < r.length) :
    xorWords (setWord r i (r.getD (2 * i) 0 ^^^ lo) (r.getD (2 * i + 1) 0 ^^^ hi)) =
      xorWords r ^^^ (hi ++ lo : BitVec 16) := by
  rw [xorWords_setWord r i _ _ h, ← BitVec.xor_append, ← wordAt, ← BitVec.xor_assoc (wordAt r i), BitVec.xor_self,
    BitVec.zero_xor]

/-- A change of one word of a passing record is seen. -/
theorem recordPasses_setWord_of_ne (r : List Byte) (i : Nat) (lo hi : Byte) (h : 2 * i + 1 < r.length)
    (hp : recordPasses r = true) (hne : (hi ++ lo : BitVec 16) ≠ wordAt r i) :
    recordPasses (setWord r i lo hi) = false := by
  rw [recordPasses, beq_iff_eq] at hp
  rw [recordPasses, beq_eq_false_iff_ne, xorWords_setWord r i lo hi h, hp]
  exact fun same => hne.symm (by simpa using same)

/-- The same flip in two words is not seen. -/
theorem recordPasses_flip_two (r : List Byte) {i j : Nat} (lo hi : Byte) (hij : i < j) (h : 2 * j + 1 < r.length) :
    recordPasses (setWord (setWord r i (r.getD (2 * i) 0 ^^^ lo) (r.getD (2 * i + 1) 0 ^^^ hi)) j
      (r.getD (2 * j) 0 ^^^ lo) (r.getD (2 * j + 1) 0 ^^^ hi)) = recordPasses r := by
  have flipped := xorWords_flipWord r i lo hi (by omega)
  generalize hr : setWord r i _ _ = r' at flipped ⊢
  have low : r'.getD (2 * j) 0 = r.getD (2 * j) 0 := hr ▸ getD_setWord_of_ne r _ _ (by omega) (by omega)
  have high : r'.getD (2 * j + 1) 0 = r.getD (2 * j + 1) 0 := hr ▸ getD_setWord_of_ne r _ _ (by omega) (by omega)
  have long : 2 * j + 1 < r'.length := by rw [← hr, length_setWord]; exact h
  rw [recordPasses, recordPasses, ← low, ← high, xorWords_flipWord r' j lo hi long, flipped, BitVec.xor_assoc,
    BitVec.xor_self, BitVec.xor_zero]

/-- Settles O41: the step sizes, the movement of the step index, and the check word, each from its lemmas above. -/
theorem stepSizesIndexAndCheckWord : Obligations.StepSizesIndexAndCheckWord := by
  refine ⟨⟨?_, ?_, ?_, ?_, ?_, ?_, ?_⟩, ⟨?_, ?_, ?_, ?_, ?_, ?_, ?_, ?_⟩, ⟨?_, ?_, ?_, ?_, ?_⟩⟩
  · exact fun k _ => rfl
  · rfl
  · rfl
  · exact fun k hk => ⟨eight_le_stepSize k, stepSize_le hk⟩
  · exact fun k _ => stepSize_add_eight k
  · exact fun row i _ hi => stepSize_growth row hi
  · exact fun data hk hs => decodeResult_step hk (by rwa [recordStep, fieldAt_one])
  · exact fun k m hm => adjust_eq_getD hm ▸ nextStep_eq k m
  · rfl
  · rfl
  · exact fun m => nextStep_top
  · rfl
  · exact fun x r p k => ⟨(codeOf x p k).2, codeOf_magnitude_le x p k, rfl⟩
  · exact fun c r p k => ⟨_, rfl⟩
  · exact fun xs p k => encodeFrom_step_le xs p
  · intro head codes hh hc
    exact ⟨by rw [length_sealRecord, hh, hc], recordPasses_sealRecord head codes (by omega), fieldAt_sealRecord head codes hh⟩
  · exact fun letter kin xs _ => recordPasses_encodeRecord letter kin xs
  · decide
  · exact fun r i lo hi hr hi40 => recordPasses_setWord_of_ne r i lo hi (by omega)
  · exact fun r i j lo hi hr hij hj => recordPasses_flip_two r lo hi hij (by omega)

end Sys2Proof.Machine
end

section
/-! Settles O19. The positions of a cursor's outputs (R131), the interpolation between two samples (R132), and what the
take of a cursor read fixes in its transaction entry (R133). -/

namespace Sys2Proof.Machine

open Sys2Proof

/-! ### Positions (R131) -/

namespace Cursor

variable {k : Cursor} {o p : Nat}

theorem position_of_temp (h : o < k.base + k.tempDur) : k.position o = k.origin + (o - k.base) * k.tempRate := if_pos h

theorem position_of_after (h : k.base + k.tempDur ≤ o) :
    k.position o = k.origin + k.tempDur * k.tempRate + (o - k.base - k.tempDur) * k.rate := if_neg (Nat.not_lt.mpr h)

/-- The last output of the temporary rate still lies before the place where the standing rate sets in. -/
theorem position_lt_tempEnd (hb : k.base ≤ o) (h : o < k.base + k.tempDur) (ht : 0 < k.tempRate) :
    k.position o < k.origin + k.tempDur * k.tempRate := by
  have steps : o - k.base < k.tempDur := by omega
  rw [position_of_temp h]
  exact Nat.add_lt_add_left (Nat.mul_lt_mul_of_pos_right steps ht) _

/-- Q is an increasing function of the output index (R131). -/
theorem position_lt (hr : 0 < k.rate) (ht : 0 < k.tempRate) (hb : k.base ≤ o) (hop : o < p) :
    k.position o < k.position p := by
  by_cases ho : o < k.base + k.tempDur
  · by_cases hp : p < k.base + k.tempDur
    · have steps : o - k.base < p - k.base := by omega
      rw [position_of_temp ho, position_of_temp hp]
      exact Nat.add_lt_add_left (Nat.mul_lt_mul_of_pos_right steps ht) _
    · rw [position_of_after (Nat.not_lt.mp hp)]
      exact Nat.lt_of_lt_of_le (position_lt_tempEnd hb ho ht) (Nat.le_add_right _ _)
  · have steps : o - k.base - k.tempDur < p - k.base - k.tempDur := by omega
    rw [position_of_after (Nat.not_lt.mp ho), position_of_after (by omega)]
    exact Nat.add_lt_add_left (Nat.mul_lt_mul_of_pos_right steps hr) _

theorem outPos_beforeBase (n : Nat) (h : o < k.base) : k.outPos n o = .beforeBase := if_pos h

/-- An output in the letter has the whole of its position as sample index and the rest as fraction. -/
theorem of_outPos_at {n i f : Nat} {last : Bool} (h : k.outPos n o = .at i f last) :
    i = k.position o / 4096 ∧ f = k.position o % 4096 := by
  unfold outPos at h
  dsimp only at h
  split at h
  · cases h
  · split at h
    · cases h
    · cases h; exact ⟨rfl, rfl⟩

end Cursor

/-! ### Interpolation (R132) -/

theorem interpolate_eq (x y : Int) (f : Nat) : interpolate x y f = x + Int.fdiv ((y - x) * f + 2048) 4096 := by
  rw [interpolate, Int.fdiv_eq_ediv_of_nonneg _ (by decide)]

theorem outSample_exact {copied : List (Nat × List Int)} {i f : Nat} {x : Int} {last : Bool}
    (hx : copiedSample copied i = some x) (h : f = 0 ∨ last = true) : outSample copied (.at i f last) = some x := by
  simp [outSample, hx, h]

theorem outSample_between {copied : List (Nat × List Int)} {i f : Nat} {x y : Int} (hf : 0 < f)
    (hx : copiedSample copied i = some x) (hy : copiedSample copied (i + 1) = some y) :
    outSample copied (.at i f false) = some (interpolate x y f) := by
  simp [outSample, hx, hy, Nat.ne_of_gt hf]

/-- The weighted difference, rounded, has the sign of the difference and is no larger than it. -/
theorem rounded_between (d : Int) {f : Nat} (hf : f ≤ 4095) :
    min 0 d ≤ (d * f + 2048) / 4096 ∧ (d * f + 2048) / 4096 ≤ max 0 d := by
  have hf' : (f : Int) ≤ 4095 := by omega
  rcases Int.le_total 0 d with hd | hd
  · have low : 0 ≤ d * f := Int.mul_nonneg hd (Int.natCast_nonneg f)
    have high : d * f ≤ d * 4095 := Int.mul_le_mul_of_nonneg_left hf' hd
    omega
  · have low : d * 4095 ≤ d * f := Int.mul_le_mul_of_nonpos_left hd hf'
    have high : d * f ≤ 0 := Int.mul_nonpos_of_nonpos_of_nonneg hd (Int.natCast_nonneg f)
    omega

theorem interpolate_between (x y : Int) {f : Nat} (hf : f ≤ 4095) :
    min x y ≤ interpolate x y f ∧ interpolate x y f ≤ max x y := by
  obtain ⟨low, high⟩ := rounded_between (y - x) hf
  unfold interpolate
  omega

/-! ### What serving a held read keeps of its entry -/

/-- An entry with what serving its needs changes set aside: its state, response, buffer, letter, needs and copied frames. -/
def Entry.asTaken (e : Entry) : Entry :=
  { e with st := .ready, response := none, buf := [], letter := none, needs := [], copied := [] }

theorem Entry.ok_asTaken (e : Entry) : e.ok.asTaken = e.asTaken := rfl

theorem Entry.copyFrame_asTaken (e : Entry) (f : Nat) (xs : List Int) : (e.copyFrame f xs).asTaken = e.asTaken := by
  unfold Entry.copyFrame
  dsimp only
  split <;> rfl

/-- From s to u, the read in entry n may have been served, and no other entry changes. -/
structure ServesOnly (n : Nat) (s u : State) : Prop where
  entry : (u.entry n).map Entry.asTaken = (s.entry n).map Entry.asTaken
  others : ∀ m, m ≠ n → u.entry m = s.entry m

theorem ServesOnly.of_entries {n : Nat} {s u : State} (h : u.entries = s.entries) : ServesOnly n s u :=
  ⟨by rw [State.entry_of_entries h], fun m _ => State.entry_of_entries h m⟩

theorem ServesOnly.trans {n : Nat} {s u v : State} (h : ServesOnly n s u) (g : ServesOnly n u v) : ServesOnly n s v :=
  ⟨g.entry.trans h.entry, fun m hm => (g.others m hm).trans (h.others m hm)⟩

theorem copyNeed_servesOnly (xs : List Int) (s : State) (w : Need) : ServesOnly w.entry s (copyNeed xs s w) := by
  unfold copyNeed
  cases he : s.entry w.entry with
  | none => exact .of_entries rfl
  | some e =>
    refine ⟨?_, fun m hm => ?_⟩
    · simp [he, Entry.copyFrame_asTaken]
    · rw [State.entry_setEntry, if_neg hm]

theorem hitNeed_servesOnly (w : Need) (s : State) : ServesOnly w.entry s (hitNeed w s) := by
  unfold hitNeed
  split
  · exact .of_entries rfl
  · refine .trans ?_ (copyNeed_servesOnly _ _ w)
    exact .of_entries rfl

theorem lookupNeed_servesOnly (s : State) (w : Need) : ServesOnly w.entry s (lookupNeed s w) := by
  by_cases h : lookupEnd w s = .full
  · rw [lookupNeed_full h]; exact .of_entries rfl
  · rw [lookupNeed_settled h]
    unfold settleNeed
    split
    · exact hitNeed_servesOnly w s
    all_goals exact .of_entries rfl

theorem lookupAll_servesOnly {n : Nat} {ws : List Need} (hw : ∀ w ∈ ws, w.entry = n) (s : State) :
    ServesOnly n s (lookupAll ws s) := by
  unfold lookupAll
  induction ws generalizing s with
  | nil => exact .of_entries rfl
  | cons w r ih =>
    have first : ServesOnly n s (lookupNeed s w) := hw w (by simp) ▸ lookupNeed_servesOnly s w
    exact first.trans (ih (fun v hv => hw v (by simp [hv])) _)

/-- A read that starts on its frames stands in its entry as it was taken, whether it waits or is READY at once (R134). -/
theorem startFrames_entry (n l : Nat) (fs : List Nat) (e : Entry) (s : State) :
    (∃ e', (startFrames n l fs e s).entry n = some e' ∧ e'.asTaken = e.asTaken) ∧
    ∀ m, m ≠ n → (startFrames n l fs e s).entry m = s.entry m := by
  unfold startFrames
  split
  · exact ⟨⟨e.ok, by simp, e.ok_asTaken⟩, fun m hm => by rw [State.entry_setEntry, if_neg hm]⟩
  · obtain ⟨own, others⟩ := lookupAll_servesOnly (n := n)
      (ws := fs.map fun f => { entry := n, letter := l, frame := f }) (by simp)
      (s.setEntry n { e with st := .waitingFrames, letter := some l, needs := fs })
    rw [State.entry_setEntry_same, Option.map_some, Option.map_eq_some_iff] at own
    exact ⟨own, fun m hm => by rw [others m hm, State.entry_setEntry, if_neg hm]⟩

/-! ### The take of a cursor read (R133) -/

theorem postAll_body (ns : List Notice) (s : State) : (postAll ns s).body = s.body := by
  unfold postAll
  induction ns generalizing s with
  | nil => rfl
  | cons n r ih => rw [List.foldl_cons, ih, post_body]

/-- The position plan of cursor read e on a letter of `len` frames, from its first output to its last. -/
def Cursor.plan (k : Cursor) (len : Nat) (e : Entry) : List OutPos :=
  (upTo e.firstUnit e.lastUnit).map (k.outPos len)

/-- An ATTACHED cursor moves, posts its notices, and starts the read on frames of its letter with its plan fixed. -/
theorem takeCursorRead_attached {n letter : Nat} {e : Entry} {s : State} (hl : (s.cursor e.num).letter = some letter) :
    ∃ frames notices k, takeCursorRead n e s =
      startFrames n letter frames
        { e with buf := zeros e.len, plan := (s.cursor e.num).plan (s.letter letter).length e }
        (postAll notices (s.setCursor e.num k)) := by
  simp only [takeCursorRead, hl]
  exact ⟨_, _, _, rfl⟩

theorem takeCursorRead_entry {n letter : Nat} {e : Entry} {s : State} (hl : (s.cursor e.num).letter = some letter) :
    (∃ e', (takeCursorRead n e s).entry n = some e' ∧
      e'.asTaken = { e with plan := (s.cursor e.num).plan (s.letter letter).length e }.asTaken) ∧
    (∀ m, m ≠ n → (takeCursorRead n e s).entry m = s.entry m) ∧ (takeCursorRead n e s).nextRank = s.nextRank := by
  obtain ⟨frames, notices, k, taken⟩ := takeCursorRead_attached (n := n) hl
  have posted := postAll_body notices (s.setCursor e.num k)
  obtain ⟨own, others⟩ := startFrames_entry n letter frames
    { e with buf := zeros e.len, plan := (s.cursor e.num).plan (s.letter letter).length e }
    (postAll notices (s.setCursor e.num k))
  rw [taken]
  refine ⟨own, fun m hm => ?_, ?_⟩
  · rw [others m hm, State.entry_of_entries (State.entries_of_body posted)]; rfl
  · rw [State.nextRank_of_readMask (startFrames_readMask ..), State.nextRank_of_body posted]; rfl

/-- A cursor read that the link port accepts is held with its plan, and nothing else of the transaction table changes. -/
theorem accept_cursorRead {n : Fin 32} {t : Txn} {num letter : Nat} {s u : State} (hw : t.wf = true)
    (ho : linkOpen n s) (h : Serves t 4 num s) (hl : (s.cursor num).letter = some letter)
    (hu : exec (.transactionAccept n t) s = .next u) :
    ∃ e, Held n t e s u ∧ e.plan = (s.cursor num).plan (s.letter letter).length (servedEntry t 4 num s) := by
  rw [accept_serves hw ho h] at hu
  cases hu
  obtain ⟨⟨e, he, same⟩, others, rank⟩ := takeCursorRead_entry (n := n) (e := servedEntry t 4 num s)
    (s := ({ s with nextRank := s.nextRank + 1 } : State).setEntry n (servedEntry t 4 num s)) hl
  refine ⟨e, ⟨he, ⟨?_, ?_, ?_, ?_, ?_, ?_⟩, fun m hm => ?_, rank⟩, (congrArg Entry.plan same :)⟩
  · exact (congrArg Entry.id same :)
  · exact (congrArg Entry.write same :)
  · exact (congrArg Entry.addr same :)
  · exact (congrArg Entry.len same :)
  · exact (congrArg Entry.rank same :)
  · exact (congrArg Entry.holdStart same :)
  · exact (others m hm).trans (by rw [State.entry_setEntry, if_neg hm]; rfl)

/-- Settles O19: the plan fixed at the take, the positions, and the interpolation, each from its lemmas above. -/
theorem cursorPositionsAndInterpolation : Obligations.CursorPositionsAndInterpolation := by
  refine ⟨?_, fun k n o => ⟨fun _ => Cursor.position_of_temp, Cursor.position_of_after, Cursor.outPos_beforeBase n, ?_, ?_⟩,
    fun copied i f x y hf hx => ?_⟩
  · exact fun n t num letter s u hw ho h hl hu => accept_cursorRead hw ho h hl hu
  · intro i f last h
    obtain ⟨index, fraction⟩ := Cursor.of_outPos_at h
    exact ⟨index, fraction, by omega⟩
  · exact fun hr ht p hb hop => Cursor.position_lt (by omega) (by omega) hb hop
  · rw [← interpolate_eq]
    obtain ⟨low, high⟩ := interpolate_between x y hf
    exact ⟨fun last => outSample_exact hx, fun h hy => outSample_between h hx hy, low, high⟩

end Sys2Proof.Machine
end

section
/-! Settles O38. What a cursor command's effect is in each of its cases, and the rebase of an ATTACHED cursor
(Sections 7.2 and 7.5, R127, R129, R139, R141 to R143). -/

namespace Sys2Proof.Machine

open Sys2Proof

/-! ### Commands taken while RUNNING -/

theorem ringCommand_of_takes {s : State} (hs : s.takes) (l u : Option Nat) (body : State → State) :
    ringCommand l u body s = retire (body s) := by
  obtain ⟨hfetch, hrun⟩ := hs
  simp [ringCommand, judge, hfetch, hrun]

/-- A command whose effect is its answer alone. -/
theorem ringCommand_answer {s : State} {body : State → State} {l u : Option Nat} {r : Result} {d : List Byte}
    (hs : s.takes) (hb : body s = answer l u r d s) :
    NextWith (.next (ringCommand l u body s)) (Answered l u r d s s) :=
  ⟨_, rfl, by rw [ringCommand_of_takes hs, hb]; exact retire_answer rfl rfl id rfl rfl rfl⟩

/-- From s to t, a command of cursor c is DONE with this detail: the cursor becomes k, and nothing else changes but what
every taken command changes. -/
structure CursorBecomes (c : Nat) (k : Cursor) (detail : List Byte) (s t : State) : Prop where
  cursor : t.cursor c = k
  answered : Answered none (some c) .done detail { s with cursors := t.cursors } s t
  others : ∀ d, d ≠ c → t.cursor d = s.cursor d

theorem ringCommand_setCursor {s : State} {body : State → State} {c : Nat} {k : Cursor} {d : List Byte}
    (hs : s.takes) (hb : body s = answer none (some c) .done d (s.setCursor c k)) :
    NextWith (.next (ringCommand none (some c) body s)) (CursorBecomes c k d s) := by
  have answered : Answered none (some c) .done d (s.setCursor c k) s (ringCommand none (some c) body s) := by
    rw [ringCommand_of_takes hs, hb]
    exact retire_answer rfl rfl id rfl rfl rfl
  have cursors : (ringCommand none (some c) body s).cursors = (s.setCursor c k).cursors :=
    State.cursors_of_body answered.effect
  refine ⟨_, rfl, ?_, ?_, fun e he => ?_⟩
  · rw [State.cursor_of_cursors cursors, State.cursor_setCursor_same]
  · rw [cursors]; exact answered
  · rw [State.cursor_of_cursors cursors, State.cursor_setCursor, if_neg he]

/-! ### The rebase of a cursor (R141 to R143) -/

theorem clampField_eq_max_min (v : BitVec 32) {lo hi : Nat} (h : lo ≤ hi) :
    clampField v lo hi = (max (lo : Int) (min v.toInt hi)).toNat := by
  rw [clampField, clampInt_eq_max_min _ (Int.ofNat_le.mpr h)]

theorem Cursor.step_origin (k : Cursor) (l : Letter) (d : Int) (b : Nat) :
    (k.step l d b).origin = (max 0 (min ((k.resume : Int) + d * 524288) (l.length * 524288))).toNat :=
  congrArg Int.toNat (clampInt_eq_max_min _ (Int.natCast_nonneg _))

theorem Cursor.step_rest (k : Cursor) (l : Letter) (d : Int) (b : Nat) :
    { k.step l d b with target := none } =
      { k with origin := (k.step l d b).origin, base := b, tempDur := 0, lastRead := none, endMark := false
               checked := ((k.step l d b).origin / 524288 : Nat) - 1, target := none } := rfl

theorem Cursor.step_targetIsNext {k : Cursor} (h : k.letter ≠ none) (l : Letter) (d : Int) (b : Nat) :
    (k.step l d b).targetIsNext l.cues := retarget_isNext h

/-- No position is negative, so the clamp of R143 needs its upper bound only. -/
theorem Cursor.rebase_origin (k : Cursor) (l : Letter) (rate temp dur b : Nat) :
    (k.rebase l rate temp dur b).origin = (max 0 (min (k.resume : Int) (l.length * 524288))).toNat := by
  have h : (k.rebase l rate temp dur b).origin = min k.resume (l.length * 524288) := rfl
  omega

theorem Cursor.rebase_rest (k : Cursor) (l : Letter) (rate temp dur b : Nat) :
    { k.rebase l rate temp dur b with target := none } =
      { k with origin := (k.rebase l rate temp dur b).origin, base := b, rate := rate, tempRate := temp, tempDur := dur
               lastRead := none, endMark := false, target := none } := rfl

theorem Cursor.rebase_targetIsNext {k : Cursor} (h : k.letter ≠ none) (l : Letter) (rate temp dur b : Nat) :
    (k.rebase l rate temp dur b).targetIsNext l.cues := retarget_isNext h

/-! ### CURSOR_DETACH (R129) -/

section
variable {s : State} {c : Nat}

theorem detachCursor_outOfRange (hc : 32 ≤ c) : detachCursor c s = answer none (some c) .outOfRange [] s :=
  if_pos hc

theorem detachCursor_idle (hc : c < 32) (hl : (s.cursor c).letter = none) :
    detachCursor c s = answer none (some c) .done [] s := by
  simp [detachCursor, Config.units, hc, hl]

theorem detachCursor_attached {n : Nat} (hc : c < 32) (hl : (s.cursor c).letter = some n) :
    detachCursor c s = answer none (some c) .done []
      ((s.setLetter n { s.letter n with cursorCount := (s.letter n).cursorCount - 1 }).setCursor c
        (s.cursor c).detached) := by
  simp [detachCursor, leaveLetter, Config.units, hc, hl]

/-! ### CURSOR_STEP (R142) -/

theorem stepCursor_outOfRange {v1 v2 : BitVec 32} (h : 32 ≤ c ∨ 16777215 < v2.toNat) :
    stepCursor c v1 v2 s = answer none (some c) .outOfRange [] s := if_pos h

theorem stepCursor_idle {v1 v2 : BitVec 32} (hc : c < 32) (h2 : v2.toNat ≤ 16777215)
    (hl : (s.cursor c).letter = none) : stepCursor c v1 v2 s = answer none (some c) .wrongState [] s := by
  simp [stepCursor, Config.units, Config.maxIndex, hc, h2, hl]

theorem stepCursor_attached {v1 v2 : BitVec 32} {n : Nat} (hc : c < 32) (h2 : v2.toNat ≤ 16777215)
    (hl : (s.cursor c).letter = some n) :
    stepCursor c v1 v2 s =
      let k := (s.cursor c).step (s.letter n) v1.toInt v2.toNat
      answer none (some c) .done (originDetail k.origin (s.letter n).length) (s.setCursor c k) := by
  simp [stepCursor, Config.units, Config.maxIndex, hc, h2, hl]

/-! ### CURSOR_RATE (R143) -/

theorem rateCursor_outOfRange {v1 v2 v3 v4 : BitVec 32} (h : 32 ≤ c ∨ 16777215 < v3.toNat ∨ 16777215 < v4.toNat) :
    rateCursor c v1 v2 v3 v4 s = answer none (some c) .outOfRange [] s := if_pos h

theorem rateCursor_idle {v1 v2 v3 v4 : BitVec 32} (hc : c < 32) (h3 : v3.toNat ≤ 16777215) (h4 : v4.toNat ≤ 16777215)
    (hl : (s.cursor c).letter = none) : rateCursor c v1 v2 v3 v4 s = answer none (some c) .wrongState [] s := by
  simp [rateCursor, Config.units, Config.maxIndex, hc, h3, h4, hl]

theorem rateCursor_attached {v1 v2 v3 v4 : BitVec 32} {n : Nat} (hc : c < 32) (h3 : v3.toNat ≤ 16777215)
    (h4 : v4.toNat ≤ 16777215) (hl : (s.cursor c).letter = some n) :
    rateCursor c v1 v2 v3 v4 s =
      let k := (s.cursor c).rebase (s.letter n) (clampField v1 2048 6144) (clampField v2 2048 6144) v3.toNat v4.toNat
      answer none (some c) .done (originDetail k.origin (s.letter n).length) (s.setCursor c k) := by
  simp [rateCursor, Config.units, Config.maxIndex, hc, h3, h4, hl]

/-! ### CURSOR_TARGET (R139) -/

theorem targetCursor_outOfRange {follow : Bool} {v1 : BitVec 32} (h : 32 ≤ c ∨ 65535 < v1.toNat) :
    targetCursor c follow v1 s = answer none (some c) .outOfRange [] s := if_pos h

theorem targetCursor_stores {follow : Bool} {v1 : BitVec 32} (hc : c < 32) (h1 : v1.toNat ≤ 65535) :
    targetCursor c follow v1 s =
      answer none (some c) .done [] (s.setCursor c
        ({ s.cursor c with interval := v1.toNat, follow := follow }.retarget (cursorCues (s.cursor c) s))) := by
  simp [targetCursor, Config.units, hc, h1]

theorem cursorCues_attached {k : Cursor} {n : Nat} (h : k.letter = some n) : cursorCues k s = (s.letter n).cues := by
  simp [cursorCues, h]

end

/-! ### The commands -/

theorem cursorDetach_attached {c : BitVec 16} {n : Nat} {s : State} (hs : s.takes) (hc : c.toNat < 32)
    (hl : (s.cursor c.toNat).letter = some n) :
    NextWith (exec (.cursorDetach c) s) (Answered none (some c.toNat) .done []
      ((s.setLetter n { s.letter n with cursorCount := (s.letter n).cursorCount - 1 }).setCursor c.toNat
        (s.cursor c.toNat).detached) s) := by
  refine ⟨_, rfl, ?_⟩
  rw [ringCommand_of_takes hs, detachCursor_attached hc hl]
  exact retire_answer rfl rfl id rfl rfl rfl

theorem cursorStep_attached {c : BitVec 16} {v1 v2 : BitVec 32} {n : Nat} {s : State} (hs : s.takes) (hc : c.toNat < 32)
    (h2 : v2.toNat ≤ 16777215) (hl : (s.cursor c.toNat).letter = some n) :
    let k := (s.cursor c.toNat).step (s.letter n) v1.toInt v2.toNat
    NextWith (exec (.cursorStep c v1 v2) s)
      (CursorBecomes c.toNat k (originDetail k.origin (s.letter n).length) s) :=
  ringCommand_setCursor hs (stepCursor_attached hc h2 hl)

theorem cursorRate_attached {c : BitVec 16} {v1 v2 v3 v4 : BitVec 32} {n : Nat} {s : State} (hs : s.takes)
    (hc : c.toNat < 32) (h3 : v3.toNat ≤ 16777215) (h4 : v4.toNat ≤ 16777215)
    (hl : (s.cursor c.toNat).letter = some n) :
    let k := (s.cursor c.toNat).rebase (s.letter n) (clampField v1 2048 6144) (clampField v2 2048 6144) v3.toNat v4.toNat
    NextWith (exec (.cursorRate c v1 v2 v3 v4) s)
      (CursorBecomes c.toNat k (originDetail k.origin (s.letter n).length) s) :=
  ringCommand_setCursor hs (rateCursor_attached hc h3 h4 hl)

theorem cursorTarget_stores {c : BitVec 16} {opt : Byte} {v1 : BitVec 32} {s : State} (hs : s.takes)
    (hc : c.toNat < 32) (h1 : v1.toNat ≤ 65535) :
    NextWith (exec (.cursorTarget c opt v1) s)
      (CursorBecomes c.toNat ({ s.cursor c.toNat with interval := v1.toNat, follow := optBit opt }.retarget
        (cursorCues (s.cursor c.toNat) s)) [] s) :=
  ringCommand_setCursor hs (targetCursor_stores hc h1)

/-- Settles O38: each command by the cases of its effect; the rebased cursors by the lemmas on `Cursor.step` and
`Cursor.rebase`. -/
theorem cursorDetachRebaseAndTarget : Obligations.CursorDetachRebaseAndTarget := by
  refine ⟨fun c s hs => ⟨?detachRange, ?detachIdle, ?detachAttached⟩,
    fun c v1 v2 v3 v4 s hs => ⟨?stepRange, ?rateRange, ?stepIdle, ?rateIdle, ?stepAttached, ?rateAttached⟩,
    fun c opt v1 s hs => ⟨?targetRange, ?targetStores⟩⟩
  case detachRange => exact fun hc => ringCommand_answer hs (detachCursor_outOfRange hc)
  case detachIdle => exact fun hc hl => ringCommand_answer hs (detachCursor_idle hc hl)
  case detachAttached => exact fun n hc hl => cursorDetach_attached hs hc hl
  case stepRange => exact fun h => ringCommand_answer hs (stepCursor_outOfRange h)
  case rateRange => exact fun h => ringCommand_answer hs (rateCursor_outOfRange h)
  case stepIdle => exact fun hc h2 hl => ringCommand_answer hs (stepCursor_idle hc h2 hl)
  case rateIdle => exact fun hc h3 h4 hl => ringCommand_answer hs (rateCursor_idle hc h3 h4 hl)
  case stepAttached =>
    intro n hc h2 hl
    obtain ⟨t, ht, hk, answered, others⟩ := cursorStep_attached (v1 := v1) hs hc h2 hl
    have origin := Cursor.step_origin (s.cursor c.toNat) (s.letter n) v1.toInt v2.toNat
    have rest := Cursor.step_rest (s.cursor c.toNat) (s.letter n) v1.toInt v2.toNat
    rw [origin] at rest answered
    exact ⟨t, ht, hk ▸ Cursor.step_targetIsNext (by simp [hl]) _ _ _, hk ▸ rest, answered, others⟩
  case rateAttached =>
    intro n hc h3 h4 hl
    obtain ⟨t, ht, hk, answered, others⟩ := cursorRate_attached (v1 := v1) (v2 := v2) hs hc h3 h4 hl
    have rest := Cursor.rebase_rest (s.cursor c.toNat) (s.letter n) (clampField v1 2048 6144) (clampField v2 2048 6144)
      v3.toNat v4.toNat
    rw [Cursor.rebase_origin] at rest answered
    rw [clampField_eq_max_min v1 (by decide), clampField_eq_max_min v2 (by decide)] at rest hk
    exact ⟨t, ht, hk ▸ Cursor.rebase_targetIsNext (by simp [hl]) _ _ _ _ _, hk ▸ rest, answered, others⟩
  case targetRange => exact fun h => ringCommand_answer hs (targetCursor_outOfRange h)
  case targetStores =>
    intro hc h1
    obtain ⟨t, ht, hk, answered, others⟩ := cursorTarget_stores (opt := opt) hs hc h1
    refine ⟨t, ht, hk ▸ rfl, fun hl => hk ▸ retarget_idle hl, fun n hl => ?_, answered, others⟩
    rw [hk, cursorCues_attached hl]
    exact retarget_isNext (by simp [hl])

end Sys2Proof.Machine
end

section
/-! Settles O22. The time code of a frame (R158). -/

namespace Sys2Proof.Machine

open Sys2Proof

/-- Both digits of a value 0-99 fit the byte. -/
theorem toNat_bcd {v : Nat} (h : v ≤ 99) : (bcd v).toNat = v / 10 * 16 + v % 10 := by
  rw [bcd, BitVec.toNat_ofNat]
  exact Nat.mod_eq_of_lt (by omega)

/-- The tens digit is the high nibble, the units digit the low nibble (R158). -/
theorem bcd_nibbles {v : Nat} (h : v ≤ 99) : (bcd v).toNat / 16 = v / 10 ∧ (bcd v).toNat % 16 = v % 10 := by
  rw [toNat_bcd h]
  omega

/-- Settles O22: each of the three values lies in 0 to 99, so its byte holds its two digits. -/
theorem timeCodes : Obligations.TimeCodes := by
  intro f hf
  have hundredths : 16 * f / 10 % 100 ≤ 99 := by omega
  have seconds : 16 * f / 1000 % 60 ≤ 99 := by omega
  have minutes : 16 * f / 60000 ≤ 34 := by omega
  exact ⟨bcd_nibbles hundredths, bcd_nibbles seconds, bcd_nibbles (by omega), hundredths, seconds, minutes⟩

end Sys2Proof.Machine
end

section
/-! Settles O40. A change of a letter's cue list with the targets it moves (R140), and the cases of CUE_REMOVE
(Section 8.3, R150, R153). -/

namespace Sys2Proof.Machine

open Sys2Proof

/-! ### Kinds and positions of cues -/

theorem CueKind.ofCode_code (k : CueKind) : CueKind.ofCode k.code = some k := by
  cases k <;> rfl

theorem CueKind.ofCode_outside : ∀ {n : Nat}, n = 0 ∨ 3 < n → CueKind.ofCode n = none
  | 0, _ => rfl
  | 1, h | 2, h | 3, h => absurd h (by decide)
  | _ + 4, _ => rfl

theorem any_isAt_iff {cues : List Cue} {p : Nat} {k : CueKind} :
    (cues.any fun c => c.isAt p k) = true ↔ ∃ q ∈ cues, q.pos = p ∧ q.kind = k := by
  simp [Cue.isAt]

/-! ### The letter of a command (R22) -/

section
variable {n : Nat} {s : State}

theorem judgeLetter_outOfRange (h : 1024 ≤ n) : judgeLetter n s = some .outOfRange := if_pos h

theorem judgeLetter_busy (hn : n < 1024) (h : s.transitional n = true) : judgeLetter n s = some .busy := by
  simp [judgeLetter, Config.letters, hn, h]

theorem judgeLetter_passes (hn : n < 1024) (h : s.transitional n = false) : judgeLetter n s = none := by
  simp [judgeLetter, Config.letters, hn, h]

end

/-! ### A changed cue list moves the targets of its letter's cursors (R140) -/

/-- Letter n has this cue list, the cue pool this many free records, and the cursors attached to n new targets. -/
def State.recue (s : State) (n : Nat) (cues : List Cue) (free : Nat) : State :=
  retargetAll n { s.setLetter n { s.letter n with cues := cues } with freeCues := free }

section
variable (s : State) (n : Nat) (cues : List Cue) (free : Nat)

@[simp] theorem State.freeCues_recue : (s.recue n cues free).freeCues = free := rfl

theorem State.letter_recue (m : Nat) :
    (s.recue n cues free).letter m = if m = n then { s.letter n with cues := cues } else s.letter m :=
  s.letter_setLetter n m _

@[simp] theorem State.letter_recue_same : (s.recue n cues free).letter n = { s.letter n with cues := cues } :=
  s.letter_setLetter_same n _

/-- A cursor without a letter follows none, so the default of the cursor table stays. -/
theorem State.cursor_recue (hw : Tab.wf Cursor.initial s.cursors = true) (k : Nat) :
    (s.recue n cues free).cursor k = (s.cursor k).follows n cues := by
  obtain ⟨rises, -⟩ := Bool.and_eq_true_iff.mp hw
  have hc : (s.recue n cues free).cursors =
      Tab.change Cursor.initial (Cursor.follows n ((s.recue n cues free).letter n).cues) s.cursors := rfl
  rw [State.letter_recue_same] at hc
  rw [State.cursor, hc]
  exact Tab.get_change rfl rises k

end

/-- From s to t the cursors of letter n have recomputed their targets, and no other cursor has changed. -/
def Retargets (n : Nat) (s t : State) : Prop :=
  ∀ k, if (s.cursor k).letter = some n then
      (t.cursor k).targetIsNext (t.letter n).cues ∧ { t.cursor k with target := none } =
        { s.cursor k with target := none }
    else t.cursor k = s.cursor k

theorem retargets_recue {s : State} (hw : Tab.wf Cursor.initial s.cursors = true) (n : Nat) (cues : List Cue)
    (free : Nat) : Retargets n s (s.recue n cues free) := by
  intro k
  rw [State.cursor_recue s n cues free hw, State.letter_recue_same, Cursor.follows]
  by_cases attached : (s.cursor k).letter = some n
  · rw [if_pos attached, if_pos attached]
    exact ⟨retarget_isNext (by simp [attached]), retarget_rest _ _⟩
  · rw [if_neg attached, if_neg attached]

/-- From s to t, a command of letter n is DONE with this detail: the letter has this cue list, the pool this many free
records, the letter's cursors new targets, and nothing else changes but what every taken command changes. -/
structure CuesBecome (n : Nat) (cues : List Cue) (free : Nat) (detail : List Byte) (s t : State) : Prop where
  letter : t.letter n = { s.letter n with cues := cues }
  others : ∀ m, m ≠ n → t.letter m = s.letter m
  pool : t.freeCues = free
  targets : Tab.wf Cursor.initial s.cursors = true → Retargets n s t
  answered : Answered (some n) none .done detail
    { s with letters := t.letters, cursors := t.cursors, freeCues := t.freeCues } s t

theorem ringCommand_recue {s : State} {body : State → State} {n : Nat} {cues : List Cue} {free : Nat} {d : List Byte}
    (hs : s.takes) (hb : body s = answer (some n) none .done d (s.recue n cues free)) :
    NextWith (.next (ringCommand (some n) none body s)) (CuesBecome n cues free d s) := by
  have answered : Answered (some n) none .done d (s.recue n cues free) s (ringCommand (some n) none body s) := by
    rw [ringCommand_of_takes hs, hb]
    exact retire_answer rfl rfl id rfl rfl rfl
  have letters := State.letters_of_body answered.effect
  have cursors := State.cursors_of_body answered.effect
  have pool := State.freeCues_of_body answered.effect
  refine ⟨_, rfl, ?_, fun m hm => ?_, pool, fun hw k => ?_, ?_⟩
  · rw [State.letter_of_letters letters, State.letter_recue_same]
  · rw [State.letter_of_letters letters, State.letter_recue, if_neg hm]
  · rw [State.cursor_of_cursors cursors, State.letter_of_letters letters]
    exact retargets_recue hw n cues free k
  · rw [letters, cursors, pool]
    exact answered

/-! ### CUE_REMOVE (R153) -/

section
variable {n : Nat} {o : Byte} {k : CueKind} {v1 : BitVec 32} {s : State}

theorem dropCue_outOfRange (h : o.toNat = 0 ∨ 3 < o.toNat ∨ 1024 ≤ n) :
    dropCue n o v1 s = answer (some n) none .outOfRange [] s := by
  rcases (or_assoc.mpr h).imp_left CueKind.ofCode_outside with unknown | beyond
  · simp only [dropCue, unknown]
  · simp only [dropCue, judgeLetter_outOfRange beyond]
    split <;> rfl

theorem dropCue_busy (hk : o.toNat = k.code) (hn : n < 1024) (h : s.transitional n = true) :
    dropCue n o v1 s = answer (some n) none .busy [] s := by
  simp only [dropCue, hk, CueKind.ofCode_code, judgeLetter_busy hn h]

theorem dropCue_wrongState (hk : o.toNat = k.code) (hn : n < 1024) (h : s.transitional n = false)
    (hf : (s.letter n).state = .free) : dropCue n o v1 s = answer (some n) none .wrongState [] s := by
  simp only [dropCue, hk, CueKind.ofCode_code, judgeLetter_passes hn h, if_pos hf]

/-- Past the tests of R22 and of the letter's state, the position is taken as given. -/
theorem dropCue_searches (hk : o.toNat = k.code) (hn : n < 1024) (h : s.transitional n = false)
    (hf : (s.letter n).state ≠ .free) : dropCue n o v1 s = removeCueAt n k v1.toNat s := by
  simp only [dropCue, hk, CueKind.ofCode_code, judgeLetter_passes hn h, if_neg hf]

theorem removeCueAt_absent {p : Nat} (h : ¬∃ q ∈ (s.letter n).cues, q.pos = p ∧ q.kind = k) :
    removeCueAt n k p s = answer (some n) none .done (cueDetail .absent k p) s :=
  if_neg (any_isAt_iff.not.mpr h)

theorem removeCueAt_removed {p : Nat} (h : ∃ q ∈ (s.letter n).cues, q.pos = p ∧ q.kind = k) :
    removeCueAt n k p s = answer (some n) none .done (cueDetail .removed k p)
      (s.recue n (removeCue p k (s.letter n).cues) (s.freeCues + 1)) :=
  if_pos (any_isAt_iff.mpr h)

end

/-- Settles O40: the tests of R150 in their order, then the search at the position as given. Nothing lies beyond the
end of a letter whose cues lie within it, so a position there is ABSENT. -/
theorem cueRemoveOutcome : Obligations.CueRemoveOutcome := by
  intro l opt v1 s hs
  refine ⟨fun h => ringCommand_answer hs (dropCue_outOfRange h), fun kind hk hn => ⟨fun busy => ?busy,
    fun calm free => ?wrongState, fun calm used => ?searches⟩⟩
  case busy => exact ringCommand_answer hs (dropCue_busy hk hn busy)
  case wrongState => exact ringCommand_answer hs (dropCue_wrongState hk hn calm free)
  case searches =>
    intro detail there
    have search : dropCue l.toNat opt v1 s = removeCueAt l.toNat kind v1.toNat s := dropCue_searches hk hn calm used
    have absent (h : ¬there) :
        NextWith (exec (.cueRemove l opt v1) s) (Answered (some l.toNat) none .done (detail 4) s s) :=
      ringCommand_answer hs (search.trans (removeCueAt_absent h))
    refine ⟨absent, fun within beyond => absent ?_, fun found => ?_⟩
    · rintro ⟨q, hq, hpos, -⟩
      have := within q hq
      omega
    · obtain ⟨t, ht, letter, others, pool, targets, answered⟩ :=
        ringCommand_recue hs (search.trans (removeCueAt_removed found))
      exact ⟨t, ht, letter, others, pool, targets, answered⟩

end Sys2Proof.Machine
end

section
/-! Settles O50. The notice ring read from the consumer copy on, and the loud count and the interrupt line that come of it
(R178, R179). -/

namespace Sys2Proof.Machine

open Sys2Proof

namespace State

/-- The ring slot k places after the consumer copy. -/
def slotAfter (s : State) (k : Nat) : Nat := (s.consIdx + k) % s.ringSize

/-- How many places slot i lies after the consumer copy; of the producer index, how many notices await software. -/
def placeOf (s : State) (i : Nat) : Nat := (i + s.ringSize - s.consIdx) % s.ringSize

/-- Slot i lies between the consumer copy and P - 1 and its loud mark is set (R179). -/
def countsLoud (s : State) (i : Nat) : Bool := decide (s.placeOf i < s.placeOf s.prod) && s.loudMark i

/-- The loud count runs over the slots in ring order, from the consumer copy on. -/
theorem loudCount_eq (s : State) :
    s.loudCount = ((List.range (s.placeOf s.prod)).filter fun k => s.loudMark (s.slotAfter k)).length := rfl

theorem irq_iff (s : State) :
    s.irq = true ↔ s.part ≠ .unconfigured ∧ (s.cfg.getD default).irqEnable = true ∧ 0 < s.loudCount := by
  simp [irq, and_assoc]

/-! ### Slots and their places -/

section
variable {s : State}

theorem consIdx_lt (hS : s.ringSize ≠ 0) : s.consIdx < s.ringSize := Nat.mod_lt _ (Nat.pos_of_ne_zero hS)

theorem placeOf_lt (hS : s.ringSize ≠ 0) (i : Nat) : s.placeOf i < s.ringSize := Nat.mod_lt _ (Nat.pos_of_ne_zero hS)

theorem slotAfter_placeOf (hS : s.ringSize ≠ 0) {i : Nat} (hi : i < s.ringSize) : s.slotAfter (s.placeOf i) = i := by
  have := consIdx_lt hS
  rw [slotAfter, placeOf, Nat.add_mod_mod, show s.consIdx + (i + s.ringSize - s.consIdx) = i + s.ringSize by omega,
    Nat.add_mod_right, Nat.mod_eq_of_lt hi]

theorem placeOf_slotAfter (hS : s.ringSize ≠ 0) {k : Nat} (hk : k < s.ringSize) : s.placeOf (s.slotAfter k) = k := by
  have := consIdx_lt hS
  rw [placeOf, slotAfter, Nat.add_sub_assoc this.le, Nat.mod_add_mod,
    show s.consIdx + k + (s.ringSize - s.consIdx) = k + s.ringSize by omega, Nat.add_mod_right, Nat.mod_eq_of_lt hk]

theorem placeOf_consIdx (hS : s.ringSize ≠ 0) : s.placeOf s.consIdx = 0 := by
  have := placeOf_slotAfter hS (Nat.pos_of_ne_zero hS)
  rwa [slotAfter, Nat.add_zero, Nat.mod_eq_of_lt (consIdx_lt hS)] at this

/-- Unless the ring is full, P moves one place further from the consumer copy. -/
theorem placeOf_next (hS : s.ringSize ≠ 0) (hP : s.prod < s.ringSize) (room : s.ringFull = false) :
    s.placeOf ((s.prod + 1) % s.ringSize) = s.placeOf s.prod + 1 := by
  have next : (s.prod + 1) % s.ringSize = s.slotAfter (s.placeOf s.prod + 1) := by
    conv_lhs => rw [← slotAfter_placeOf hS hP]
    rw [slotAfter, Nat.mod_add_mod, slotAfter, Nat.add_assoc]
  rw [next]
  refine placeOf_slotAfter hS (Nat.lt_of_le_of_ne (placeOf_lt hS s.prod) fun wraps => ?_)
  rw [wraps, slotAfter, Nat.add_mod_right, Nat.mod_eq_of_lt (consIdx_lt hS)] at next
  simp [ringFull, next] at room

end

/-- The places after the consumer copy reach each slot once. -/
theorem slots_perm (s : State) : ((List.range s.ringSize).map s.slotAfter).Perm (List.range s.ringSize) := by
  have rotated : (List.range s.ringSize).rotate s.consIdx = (List.range s.ringSize).map s.slotAfter :=
    List.ext_getElem (by simp) fun k _ _ => by simp [List.getElem_rotate, slotAfter, Nat.add_comm]
  exact rotated ▸ List.rotate_perm _ _

end State

/-- Below a bound, a filter of a longer range finds what it finds of the range up to the bound. -/
theorem filter_range_below {n m : Nat} (h : n ≤ m) (p : Nat → Bool) :
    (List.range m).filter (fun k => decide (k < n) && p k) = (List.range n).filter p := by
  obtain ⟨d, rfl⟩ := Nat.exists_eq_add_of_le h
  have low : (List.range n).filter (fun k => decide (k < n) && p k) = (List.range n).filter p :=
    List.filter_congr fun k hk => by simp [List.mem_range.mp hk]
  simp [List.range_add, low]

/-! ### The loud count (R179) -/

namespace State

section
variable {s : State}

/-- The loud count over the slots in the order of their numbers. -/
theorem loudCount_slots (hS : s.ringSize ≠ 0) : s.loudCount = ((List.range s.ringSize).filter s.countsLoud).length := by
  have places : (List.range s.ringSize).filter (s.countsLoud ∘ s.slotAfter) =
      (List.range s.ringSize).filter fun k => decide (k < s.placeOf s.prod) && s.loudMark (s.slotAfter k) :=
    List.filter_congr fun k hk => by simp [countsLoud, placeOf_slotAfter hS (List.mem_range.mp hk)]
  calc s.loudCount
      = ((List.range s.ringSize).filter (s.countsLoud ∘ s.slotAfter)).length := by
        rw [places, filter_range_below (placeOf_lt hS _).le, loudCount_eq]
    _ = (((List.range s.ringSize).map s.slotAfter).filter s.countsLoud).length := by
        rw [List.filter_map, List.length_map]
    _ = ((List.range s.ringSize).filter s.countsLoud).length := ((slots_perm s).filter s.countsLoud).length_eq

theorem irq_eq_false_of_read (hS : s.ringSize ≠ 0) (h : s.consIdx = s.prod) : s.irq = false := by
  have none : s.loudCount = 0 := by rw [loudCount_eq, ← h, placeOf_consIdx hS]; rfl
  simp [irq, none]

end

end State

/-! ### A notice that is written -/

section
variable {n : Notice} {s : State}

theorem post_prod (h : s.canPost) : (post n s).prod = (s.prod + 1) % s.ringSize := by rw [post_written n h]; rfl

theorem post_slotAfter (h : s.canPost) (k : Nat) : (post n s).slotAfter k = s.slotAfter k := by
  rw [post_written n h]; rfl

theorem post_placeOf (h : s.canPost) (i : Nat) : (post n s).placeOf i = s.placeOf i := by rw [post_written n h]; rfl

theorem post_loudMark (h : s.canPost) (i : Nat) :
    (post n s).loudMark i = if i = s.prod then s.isLoud n.kind else s.loudMark i := by
  rw [post_written n h]
  exact Tab.get_set ..

/-- The count gains the slot at P and keeps the marks of the slots before it. -/
theorem post_loudCount (hS : s.ringSize ≠ 0) (hP : s.prod < s.ringSize) (h : s.canPost) :
    (post n s).loudCount = s.loudCount + if s.isLoud n.kind then 1 else 0 := by
  have ⟨_, _, room⟩ := h
  have earlier : ∀ k ∈ List.range (s.placeOf s.prod),
      (post n s).loudMark (s.slotAfter k) = s.loudMark (s.slotAfter k) := by
    intro k hk
    have before := List.mem_range.mp hk
    have apart : s.slotAfter k ≠ s.prod := fun same => by
      rw [← same, State.placeOf_slotAfter hS (before.trans (State.placeOf_lt hS _))] at before
      exact before.false
    rw [post_loudMark h, if_neg apart]
  have last : (post n s).loudMark (s.slotAfter (s.placeOf s.prod)) = s.isLoud n.kind := by
    rw [State.slotAfter_placeOf hS hP, post_loudMark h, if_pos rfl]
  rw [State.loudCount_eq, post_prod h, post_placeOf h, State.placeOf_next hS hP room]
  simp only [post_slotAfter h]
  rw [List.range_succ, List.filter_append, List.length_append, List.filter_congr earlier, ← State.loudCount_eq,
    List.filter_singleton, last]
  cases s.isLoud n.kind <;> rfl

end

/-- Settles O50: the slots from the consumer copy up to P - 1 are counted by place or by number alike, and a written notice
adds one place, whose mark is its own. -/
theorem loudCountAndLine : Obligations.LoudCountAndLine := fun _ s hS hP =>
  ⟨s.irq_iff, State.loudCount_slots hS, post_loudCount hS hP, post_prod, State.irq_eq_false_of_read hS, rfl⟩

end Sys2Proof.Machine
end
